-- ==== Sys2Proof/Word.lean ====
section
/-! DEFINITION. The byte type of the Command Port and report lines, and the index types of the tables. -/

namespace Sys2Proof

/-- One byte of a command, response or report frame (10_the_command_port_and_frame_formats, R163). -/
abbrev Byte := BitVec 8

/-- Slot number of an account record (R1). -/
abbrev Slot := Fin 256

/-- Number of a meter channel, its report line and its permit output (R44). -/
abbrev Chan := Fin 8

/-- Index of a hold entry (R70). -/
abbrev HoldIdx := Fin 64

/-- Index of a tariff entry (R31). -/
abbrev TariffIdx := Fin 16

end Sys2Proof
end

