-- ==== Sys2Proof/Machine/Records.lean ====
section
/-! DEFINITION. The records the PA-256 keeps: plain data, one structure for each record of the spec. -/

namespace Sys2Proof.Machine

/-- Lifecycle state of an account (R1). -/
inductive LifeState where
  | free | opened | frozen | retired | damaged
deriving DecidableEq, Repr

/-- Kind of an account (R1). `corrupt` stands for every value of a damaged kind field that names neither kind (R151). -/
inductive Kind where
  | consumer | pool | corrupt
deriving DecidableEq, Repr

/-- Rounding mode of a tariff entry (R31). -/
inductive Rounding where
  | truncate | nearest
deriving DecidableEq, Repr

/-- State of a meter channel (R50). -/
inductive ChanState where
  | unbound | live | parked
deriving DecidableEq, Repr

/-- Permit state (R90). -/
inductive Permit where
  | off | on | grace
deriving DecidableEq, Repr

/-- Direction of a reported quantity (R174). -/
inductive Flow where
  | imp | exp
deriving DecidableEq, Repr

/-- Direction of a sweep (R115). -/
inductive SweepDir where
  | debit | credit
deriving DecidableEq, Repr

/-- Class selector of a sweep (R115). -/
inductive Selector where
  | cls (n : Fin 16)
  | all
deriving DecidableEq, Repr

/-- How the last sweep ended (R115). -/
inductive Ending where
  | none | done | stopped | interrupted
deriving DecidableEq, Repr

/-- Whether a sweep is in progress (R115). -/
inductive SweepState where
  | idle | running
deriving DecidableEq, Repr

/-- State of a frame receiver (R45). -/
inductive Receiver where
  | hunting | assembling
deriving DecidableEq, Repr

/-- Supply and start condition of the part (R155). -/
inductive Phase where
  | run | starting | retain | off
deriving DecidableEq, Repr

/-- Cause of the most recent start (R155). -/
inductive StartCause where
  | cold | erase | supply | resetPin | restart
deriving DecidableEq, Repr

/-- Status of a response, in the order of the codes of R170. -/
inductive Status where
  | ok | frameBad | frameShort | unknownCommand | badLength | starting | badArgument | notFound
  | wrongState | wrongKind | noSlot | duplicateTag | bound | inUse | insufficient | overCeiling
  | holdsFull | accountHoldsFull | holdGone | busy | nothingPending | stackEmpty | damaged
deriving DecidableEq, Repr

/-- A notice source (R126). -/
inductive Source where
  | device
  | channel (c : Chan)
  | account (i : Slot)
  | fault
deriving DecidableEq, Repr

/-- A hold handle: generation x 64 + index (R71). -/
structure Handle where
  gen : Fin 1024
  idx : HoldIdx
deriving DecidableEq, Repr

/-- The five items of a notice source other than the fault source (R126). Cause sets are laid out as R177 says. -/
structure NoticeRec where
  level : Fin 16
  group : Fin 4
  mask : BitVec 16
  enable : Bool
  pending : BitVec 16
deriving DecidableEq, Repr

/-- A refill specification (R104). -/
structure RefillSpec where
  pool : Slot
  amount : Nat
  count : Nat
deriving DecidableEq, Repr

/-- An account record (R1). `syndrome` holds the check word of R146 as its difference (exclusive or) from the word
computed over the other fields: 0 says that the two agree. DESIGN CHOICE, log 5, safe. -/
structure Account where
  state : LifeState
  tag : BitVec 32
  kind : Kind
  cls : Nat
  balance : Int
  floor : Int
  lowMark : Int
  ceiling : Int
  heldTotal : Nat
  holdList : List HoldIdx
  bindingCount : Nat
  refill : Option RefillSpec
  dependents : Nat
  charged : Nat
  credited : Nat
  clamped : Bool
  overrun : Bool
  low : Bool
  empty : Bool
  lastSweep : Nat
  notice : NoticeRec
  syndrome : BitVec 16
deriving DecidableEq, Repr

/-- One pair of the tag map, with its copy of the lifecycle state (R2, R146). -/
structure MapPair where
  tag : BitVec 32
  state : LifeState
deriving DecidableEq, Repr

/-- A tariff entry (R31). -/
structure Tariff where
  rate : Nat
  shift : Nat
  mode : Rounding
  uses : Nat
deriving DecidableEq, Repr

/-- A usage-charge request issued by a channel and not yet taken (R55). -/
structure UsageRequest where
  flow : Flow
  quantity : Nat
deriving DecidableEq, Repr

/-- A channel record with its permit fields (R48, R90), its frame receiver (R45) and its untaken requests, oldest
first (R55). -/
structure Channel where
  state : ChanState
  slot : Slot
  importTariff : TariffIdx
  exportTariff : TariffIdx
  sync : Option (Fin 16)
  deferredImport : Nat
  deferredExport : Nat
  drawing : Option Handle
  grace : Nat
  silenceTimeout : Nat
  autoRestore : Bool
  silentCut : Bool
  silenceCounter : Nat
  silent : Bool
  tamper : Bool
  framesTaken : BitVec 16
  badFrames : Nat
  duplicates : Nat
  missed : Nat
  stray : Nat
  notice : NoticeRec
  permit : Permit
  graceRemaining : Nat
  cutLatch : Bool
  hostCut : Bool
  emptyMark : Bool
  receiver : Receiver
  requests : List UsageRequest
deriving DecidableEq, Repr

/-- A hold entry (R70); `held` is set while the state is HELD. -/
structure Hold where
  held : Bool
  generation : Fin 1024
  slot : Slot
  amount : Nat
  lifetime : Nat
  expiryDue : Bool
  drawnBy : Option Chan
deriving DecidableEq, Repr

/-- The sweep record (R115). -/
structure Sweep where
  state : SweepState
  number : Nat
  dir : SweepDir
  amount : Nat
  selector : Selector
  cursor : Nat
  changed : Nat
  ending : Ending
  stopOwed : Bool
deriving DecidableEq, Repr

/-- An entry of the service stack (R131). -/
structure StackEntry where
  level : Nat
  source : Source
deriving DecidableEq, Repr

/-- The fault record (R132). -/
structure FaultRec where
  pending : BitVec 16
  damagedCount : Nat
deriving DecidableEq, Repr

/-- A response frame before it is serialised (R173). -/
structure Response where
  status : Status
  replayed : Bool
  tagEcho : Byte
  numberEcho : Byte
  result : List Byte
deriving DecidableEq, Repr

/-- The response state of the Command Port (R164); BUSY keeps the taken frame, from the frame tag to the check byte. -/
inductive PortState where
  | empty
  | busy (frame : List Byte)
  | ready (r : Response)
deriving DecidableEq, Repr

/-- The one entry of the replay memory (R167). -/
structure ReplayEntry where
  frame : List Byte
  response : Response
deriving DecidableEq, Repr

/-- Every item of a source after a cold start (R127). -/
def NoticeRec.zero : NoticeRec := ⟨0, 0, 0, false, 0⟩

/-- A FREE record: zero in every field, and its check word the one computed over zeros (R1, R3). -/
def Account.zero : Account :=
  { state := .free, tag := 0, kind := .consumer, cls := 0, balance := 0, floor := 0, lowMark := 0, ceiling := 0,
    heldTotal := 0, holdList := [], bindingCount := 0, refill := none, dependents := 0, charged := 0, credited := 0,
    clamped := false, overrun := false, low := false, empty := false, lastSweep := 0, notice := .zero, syndrome := 0 }

/-- A tariff entry after a cold start (R33). -/
def Tariff.zero : Tariff := ⟨0, 0, .truncate, 0⟩

/-- A channel after a cold start (R49, R90). -/
def Channel.zero : Channel :=
  { state := .unbound, slot := 0, importTariff := 0, exportTariff := 0, sync := none, deferredImport := 0,
    deferredExport := 0, drawing := none, grace := 0, silenceTimeout := 0, autoRestore := false, silentCut := false,
    silenceCounter := 0, silent := false, tamper := false, framesTaken := 0, badFrames := 0, duplicates := 0,
    missed := 0, stray := 0, notice := .zero, permit := .off, graceRemaining := 0, cutLatch := false,
    hostCut := false, emptyMark := false, receiver := .hunting, requests := [] }

/-- A hold entry after a cold start (R70). -/
def Hold.zero : Hold := ⟨false, 0, 0, 0, 0, false, none⟩

/-- The sweep record after a cold start (R115). -/
def Sweep.zero : Sweep := ⟨.idle, 0, .debit, 0, .cls 0, 0, 0, .none, false⟩

/-- The fault record after a cold start (R132). -/
def FaultRec.zero : FaultRec := ⟨0, 0⟩

end Sys2Proof.Machine
end

