-- ==== Sys2Proof/Config.lean ====
section
/-! DEFINITION. What the spec fixes once for the part, and the two values it leaves open. -/

namespace Sys2Proof.Config

/-- The lowest balance, -2^39 (R7). -/
def minBalance : Int := -549755813888

/-- The greatest balance and ceiling, 2^39 - 1 (R1). -/
def maxBalance : Int := 549755813887

/-- Where the charged and credited totals stop, 2^48 - 1 (R11). -/
def maxTotal : Nat := 281474976710655

/-- Where a deferred quantity stops, 2^32 - 1 (R57). -/
def maxDeferred : Nat := 4294967295

/-- The greatest amount of a command, 2^31 - 1 (R24, R74, R105, R116). -/
def maxAmount : Nat := 2147483647

/-- The low end of the 32-bit window of READ ACCOUNT, -2^31 (R5, R28). -/
def windowLow : Int := -2147483648

/-- The high end of the 32-bit window of READ ACCOUNT, 2^31 - 1 (R5, R28). -/
def windowHigh : Int := 2147483647

/-- Where the eight-bit counters stop (R47, R51, R52, R53, R132). -/
def maxCounter : Nat := 255

/-- Holds an account's list may carry (R72). -/
def maxHolds : Nat := 8

/-- REFCK periods between two second events (R153). -/
def refckPerSecond : Nat := 32768

/-- The level of the fault source (R135). -/
def faultLevel : Nat := 16

/-- Bytes a command's arguments may have (R165). -/
def maxArguments : Nat := 32

/-- The identity code of DEVICE STATUS (R172). -/
def identity : Nat := 0x2A56

/-- The revision of DEVICE STATUS (R172). -/
def revision : Nat := 1

/-- A FREE value: the check word over the fields of a record. The spec gives no calculation ("its calculation is not
given", 00_scope 1.5; R146). DESIGN CHOICE, log 5, safe. -/
opaque checkWord : Sys2Proof.Machine.Account → BitVec 16

/-- A FREE value: whether, in the second event counted by the first argument, the Meter Channels take the event before
the Permit Unit on this channel. R153 says the blocks need no order, and R96 gives each order its outcome.
DESIGN CHOICE, log 9, safe. -/
opaque silenceFirst : Nat → Sys2Proof.Chan → Bool

end Sys2Proof.Config
end

