-- ==== Sys2Proof/Syntax.lean ====
section
/-! DEFINITION. The commands of the PA-256: one constructor for each row of spec/opcode_table.json, in the table's order.

A host command carries the frame tag of the frame that brings it (R165) and the arguments of R169 in the order of its
rule, each at its wire width (R171): a field whose every byte value has a meaning has the type of that meaning, any
other is the raw byte that the command's rule checks. -/

namespace Sys2Proof

open Machine in
/-- The commands of the block. -/
inductive Instr where
  /-- A COMMAND transaction; the bytes after the kind byte 3Ch, up to the rise of CSN (R165). -/
  | commandTransaction (bytes : List Byte)
  /-- A FETCH transaction in which the host clocks this many bytes after the kind byte A3h (R168). -/
  | fetchTransaction (clocked : Nat)
  /-- A transaction of another first byte, or of fewer than eight bits (`none`) (R163). -/
  | ignoredTransaction (first : Option Byte)
  | deviceStatus (tag : Byte)
  | restart (tag : Byte)
  | eraseTables (tag : Byte)
  | openAccount (tag : Byte) (accountTag : BitVec 32) (kind cls : Byte) (floor lowMark : BitVec 32) (ceiling : BitVec 40)
  | setLimits (tag : Byte) (slot : Slot) (floor lowMark : BitVec 32) (ceiling : BitVec 40)
  | setClass (tag : Byte) (slot : Slot) (cls : Byte)
  | adjust (tag : Byte) (slot : Slot) (dir : Byte) (amount : BitVec 32) (force : Byte)
  | freeze (tag : Byte) (slot : Slot)
  | thaw (tag : Byte) (slot : Slot)
  | close (tag : Byte) (slot : Slot)
  | release (tag : Byte) (slot : Slot)
  | readAccount (tag : Byte) (slot : Slot)
  | readFigures (tag : Byte) (slot : Slot)
  | findTag (tag : Byte) (accountTag : BitVec 32)
  | clearSticky (tag : Byte) (slot : Slot)
  | writeTariff (tag : Byte) (index : Byte) (rate : BitVec 16) (shift mode : Byte)
  | readTariff (tag : Byte) (index : Byte)
  | bindChannel (tag : Byte) (channel : Byte) (slot : Slot) (importTariff exportTariff : Byte)
  | unbindChannel (tag : Byte) (channel : Byte)
  | resyncChannel (tag : Byte) (channel : Byte)
  | readChannel (tag : Byte) (channel clear : Byte)
  | setChannelOptions (tag : Byte) (channel grace silenceTimeout autoRestore silentCut : Byte)
  | placeHold (tag : Byte) (slot : Slot) (amount : BitVec 32) (lifetime : BitVec 16)
  | captureHold (tag : Byte) (handle : BitVec 16) (amount : BitVec 32)
  | releaseHold (tag : Byte) (handle : BitVec 16)
  | readHold (tag : Byte) (handle : BitVec 16)
  | listHolds (tag : Byte) (slot : Slot)
  | drawHold (tag : Byte) (channel : Byte) (handle : BitVec 16)
  | endDraw (tag : Byte) (channel : Byte)
  | restorePermit (tag : Byte) (channel : Byte)
  | cutPermit (tag : Byte) (channel : Byte)
  | setRefill (tag : Byte) (slot pool : Slot) (amount : BitVec 32) (count : Byte)
  | clearRefill (tag : Byte) (slot : Slot)
  | startSweep (tag : Byte) (number dir : Byte) (amount : BitVec 32) (selector start : Byte)
  | stopSweep (tag : Byte)
  | readSweep (tag : Byte)
  | setNotice (tag : Byte) (source : BitVec 16) (level group : Byte) (mask : BitVec 16) (enable : Byte)
  | noticesOn (tag : Byte)
  | noticesOff (tag : Byte)
  | takeNotice (tag : Byte)
  | endNotice (tag : Byte)
  | readPending (tag : Byte) (source : BitVec 16)
  | clearCauses (tag : Byte) (source causes : BitVec 16)
  | readStack (tag : Byte)
  | rebuildAccount (tag : Byte) (slot : Slot) (balance : BitVec 40) (floor lowMark : BitVec 32) (ceiling : BitVec 40)
      (charged credited : BitVec 48) (lastSweep : Byte)
  | discardAccount (tag : Byte) (slot : Slot)
  | nextDamaged (tag : Byte) (slot : Slot)
  /-- The check byte of a seven-byte report frame arrives; the six bytes after the sync (R46, R174). -/
  | reportFrame (line : Chan) (lineSeq q0 q1 q2 flags check : Byte)
  | frameGapTimeout (line : Chan)
  | framingMarkAbandon (line : Chan)
  /-- The Account Table takes the oldest untaken usage-charge request of this channel (R55). -/
  | usageCharge (channel : Chan)
  | secondEvent
  | holdLifetimeExpiry (entry : HoldIdx)
  /-- The Account Table takes the issued expiry request that names this handle (R79). -/
  | holdExpiry (handle : Handle)
  | graceExpiry (channel : Chan)
  | silenceTimeout (channel : Chan)
  | sweepStep
  | referenceLost
  | referenceReturned
  | enterRetain
  | supplyOff
  | vbkLost
  | coldStart
  | supplyReturn
  | resetPinFall
  | resetPinRise
  | startCheckRead
  | startCheckCompletion
  | frameSync (line : Chan)
deriving DecidableEq, Repr

end Sys2Proof
end

