-- ==== Sys2Proof/Decode.lean ====
section
/-! DEFINITION. Bytes of frames: byte order, the CRC-8 of both links, the command frame of each host command and the
reading of it back, and the table's words (the table gives none of its rows any bits). -/

namespace Sys2Proof

/-- The `n` bytes of a value, least significant byte first (00_scope 1.7, R163). -/
def leBytes : Nat → Nat → List Byte
  | 0, _ => []
  | n + 1, v => BitVec.ofNat 8 v :: leBytes n (v / 256)

/-- The value of bytes sent least significant byte first. -/
def leValue : List Byte → Nat
  | [] => 0
  | b :: bs => b.toNat + 256 * leValue bs

/-- One shift of the check register by the polynomial x^8 + x^2 + x + 1 (R46). -/
def crcShift (r : Byte) : Byte :=
  if r.msb then (r <<< 1) ^^^ 0x07 else r <<< 1

/-- One covered byte: combined by exclusive-or, then eight shifts (R46). -/
def crcByte (r b : Byte) : Byte :=
  crcShift (crcShift (crcShift (crcShift (crcShift (crcShift (crcShift (crcShift (r ^^^ b))))))))

/-- The check over the covered bytes, from the given start value: FFh for report frames (R46), 00h for command and
response frames (R165). -/
def crc8 (init : Byte) (covered : List Byte) : Byte :=
  covered.foldl crcByte init

/-- A command frame from the frame tag to the check byte (R165, R173). -/
def frameOf (tag number : Byte) (args : List Byte) : List Byte :=
  let body := tag :: number :: BitVec.ofNat 8 args.length :: args
  body ++ [crc8 0x00 body]

/-- The argument length of each command number, `none` for a number not in the table (R169). -/
def argLength (number : Byte) : Option Nat :=
  match number.toNat with
  | 0x01 => some 0 | 0x02 => some 0 | 0x03 => some 0
  | 0x10 => some 19 | 0x11 => some 14 | 0x12 => some 2 | 0x13 => some 7
  | 0x14 => some 1 | 0x15 => some 1 | 0x16 => some 1 | 0x17 => some 1
  | 0x18 => some 1 | 0x19 => some 1 | 0x1A => some 4 | 0x1B => some 1
  | 0x20 => some 5 | 0x21 => some 1
  | 0x30 => some 4 | 0x31 => some 1 | 0x32 => some 1 | 0x33 => some 2 | 0x34 => some 5
  | 0x40 => some 7 | 0x41 => some 6 | 0x42 => some 2 | 0x43 => some 2
  | 0x44 => some 1 | 0x45 => some 3 | 0x46 => some 1
  | 0x50 => some 1 | 0x51 => some 1
  | 0x60 => some 7 | 0x61 => some 1
  | 0x70 => some 8 | 0x71 => some 0 | 0x72 => some 0
  | 0x80 => some 7 | 0x81 => some 0 | 0x82 => some 0 | 0x83 => some 0
  | 0x84 => some 0 | 0x85 => some 2 | 0x86 => some 4 | 0x87 => some 0
  | 0x90 => some 32 | 0x91 => some 1 | 0x92 => some 1
  | _ => none

/-- The frame tag, command number and argument bytes of a host command, in the order its rule names the fields
(R169, R171); `none` for a row that is no host command. -/
def Instr.hostArgs : Instr → Option (Byte × Byte × List Byte)
  | .deviceStatus tag => some (tag, 0x01, [])
  | .restart tag => some (tag, 0x02, [])
  | .eraseTables tag => some (tag, 0x03, [])
  | .openAccount tag atag kind cls floor low ceil =>
    some (tag, 0x10, leBytes 4 atag.toNat ++ [kind, cls] ++ leBytes 4 floor.toNat ++ leBytes 4 low.toNat ++ leBytes 5 ceil.toNat)
  | .setLimits tag slot floor low ceil =>
    some (tag, 0x11, leBytes 1 slot.val ++ leBytes 4 floor.toNat ++ leBytes 4 low.toNat ++ leBytes 5 ceil.toNat)
  | .setClass tag slot cls => some (tag, 0x12, leBytes 1 slot.val ++ [cls])
  | .adjust tag slot dir amount force => some (tag, 0x13, leBytes 1 slot.val ++ [dir] ++ leBytes 4 amount.toNat ++ [force])
  | .freeze tag slot => some (tag, 0x14, leBytes 1 slot.val)
  | .thaw tag slot => some (tag, 0x15, leBytes 1 slot.val)
  | .close tag slot => some (tag, 0x16, leBytes 1 slot.val)
  | .release tag slot => some (tag, 0x17, leBytes 1 slot.val)
  | .readAccount tag slot => some (tag, 0x18, leBytes 1 slot.val)
  | .readFigures tag slot => some (tag, 0x19, leBytes 1 slot.val)
  | .findTag tag atag => some (tag, 0x1A, leBytes 4 atag.toNat)
  | .clearSticky tag slot => some (tag, 0x1B, leBytes 1 slot.val)
  | .writeTariff tag index rate shift mode => some (tag, 0x20, [index] ++ leBytes 2 rate.toNat ++ [shift, mode])
  | .readTariff tag index => some (tag, 0x21, [index])
  | .bindChannel tag ch slot imp exp => some (tag, 0x30, [ch] ++ leBytes 1 slot.val ++ [imp, exp])
  | .unbindChannel tag ch => some (tag, 0x31, [ch])
  | .resyncChannel tag ch => some (tag, 0x32, [ch])
  | .readChannel tag ch clear => some (tag, 0x33, [ch, clear])
  | .setChannelOptions tag ch grace timeout auto cut => some (tag, 0x34, [ch, grace, timeout, auto, cut])
  | .placeHold tag slot amount lifetime => some (tag, 0x40, leBytes 1 slot.val ++ leBytes 4 amount.toNat ++ leBytes 2 lifetime.toNat)
  | .captureHold tag handle amount => some (tag, 0x41, leBytes 2 handle.toNat ++ leBytes 4 amount.toNat)
  | .releaseHold tag handle => some (tag, 0x42, leBytes 2 handle.toNat)
  | .readHold tag handle => some (tag, 0x43, leBytes 2 handle.toNat)
  | .listHolds tag slot => some (tag, 0x44, leBytes 1 slot.val)
  | .drawHold tag ch handle => some (tag, 0x45, [ch] ++ leBytes 2 handle.toNat)
  | .endDraw tag ch => some (tag, 0x46, [ch])
  | .restorePermit tag ch => some (tag, 0x50, [ch])
  | .cutPermit tag ch => some (tag, 0x51, [ch])
  | .setRefill tag slot pool amount count =>
    some (tag, 0x60, leBytes 1 slot.val ++ leBytes 1 pool.val ++ leBytes 4 amount.toNat ++ [count])
  | .clearRefill tag slot => some (tag, 0x61, leBytes 1 slot.val)
  | .startSweep tag number dir amount selector start =>
    some (tag, 0x70, [number, dir] ++ leBytes 4 amount.toNat ++ [selector, start])
  | .stopSweep tag => some (tag, 0x71, [])
  | .readSweep tag => some (tag, 0x72, [])
  | .setNotice tag source level group mask enable =>
    some (tag, 0x80, leBytes 2 source.toNat ++ [level, group] ++ leBytes 2 mask.toNat ++ [enable])
  | .noticesOn tag => some (tag, 0x81, [])
  | .noticesOff tag => some (tag, 0x82, [])
  | .takeNotice tag => some (tag, 0x83, [])
  | .endNotice tag => some (tag, 0x84, [])
  | .readPending tag source => some (tag, 0x85, leBytes 2 source.toNat)
  | .clearCauses tag source causes => some (tag, 0x86, leBytes 2 source.toNat ++ leBytes 2 causes.toNat)
  | .readStack tag => some (tag, 0x87, [])
  | .rebuildAccount tag slot balance floor low ceil charged credited last =>
    some (tag, 0x90, leBytes 1 slot.val ++ leBytes 5 balance.toNat ++ leBytes 4 floor.toNat ++ leBytes 4 low.toNat
      ++ leBytes 5 ceil.toNat ++ leBytes 6 charged.toNat ++ leBytes 6 credited.toNat ++ [last])
  | .discardAccount tag slot => some (tag, 0x91, leBytes 1 slot.val)
  | .nextDamaged tag slot => some (tag, 0x92, leBytes 1 slot.val)
  | .commandTransaction _ => none
  | .fetchTransaction _ => none
  | .ignoredTransaction _ => none
  | .reportFrame _ _ _ _ _ _ _ => none
  | .frameGapTimeout _ => none
  | .framingMarkAbandon _ => none
  | .usageCharge _ => none
  | .secondEvent => none
  | .holdLifetimeExpiry _ => none
  | .holdExpiry _ => none
  | .graceExpiry _ => none
  | .silenceTimeout _ => none
  | .sweepStep => none
  | .referenceLost => none
  | .referenceReturned => none
  | .enterRetain => none
  | .supplyOff => none
  | .vbkLost => none
  | .coldStart => none
  | .supplyReturn => none
  | .resetPinFall => none
  | .resetPinRise => none
  | .startCheckRead => none
  | .startCheckCompletion => none
  | .frameSync _ => none

/-- The frame that brings a host command, from the frame tag to the check byte (R165); no bytes for another row. -/
def Instr.frame (i : Instr) : List Byte :=
  match i.hostArgs with
  | some (tag, number, args) => frameOf tag number args
  | none => []

/-- The value of `n` bytes of the arguments from a place on. -/
def fieldAt (args : List Byte) (place n : Nat) : Nat := leValue ((args.drop place).take n)

/-- The argument byte at a place. -/
def byteAt (args : List Byte) (place : Nat) : Byte := args.getD place 0x00

/-- The slot at a place. -/
def slotAt (args : List Byte) (place : Nat) : Slot := Fin.ofNat 256 (byteAt args place).toNat

/-- The field of `n` bytes at a place, as a word of `w` bits. -/
def wordAt (w : Nat) (args : List Byte) (place n : Nat) : BitVec w := BitVec.ofNat w (fieldAt args place n)

/-- The host command that a frame tag, command number and argument bytes bring, when the number is in the table and
the length is the table's (R169, R170). -/
def decodeCommand (tag number : Byte) (args : List Byte) : Option Instr :=
  if argLength number ≠ some args.length then none
  else
    match number.toNat with
    | 0x01 => some (.deviceStatus tag)
    | 0x02 => some (.restart tag)
    | 0x03 => some (.eraseTables tag)
    | 0x10 => some (.openAccount tag (wordAt 32 args 0 4) (byteAt args 4) (byteAt args 5) (wordAt 32 args 6 4) (wordAt 32 args 10 4) (wordAt 40 args 14 5))
    | 0x11 => some (.setLimits tag (slotAt args 0) (wordAt 32 args 1 4) (wordAt 32 args 5 4) (wordAt 40 args 9 5))
    | 0x12 => some (.setClass tag (slotAt args 0) (byteAt args 1))
    | 0x13 => some (.adjust tag (slotAt args 0) (byteAt args 1) (wordAt 32 args 2 4) (byteAt args 6))
    | 0x14 => some (.freeze tag (slotAt args 0))
    | 0x15 => some (.thaw tag (slotAt args 0))
    | 0x16 => some (.close tag (slotAt args 0))
    | 0x17 => some (.release tag (slotAt args 0))
    | 0x18 => some (.readAccount tag (slotAt args 0))
    | 0x19 => some (.readFigures tag (slotAt args 0))
    | 0x1A => some (.findTag tag (wordAt 32 args 0 4))
    | 0x1B => some (.clearSticky tag (slotAt args 0))
    | 0x20 => some (.writeTariff tag (byteAt args 0) (wordAt 16 args 1 2) (byteAt args 3) (byteAt args 4))
    | 0x21 => some (.readTariff tag (byteAt args 0))
    | 0x30 => some (.bindChannel tag (byteAt args 0) (slotAt args 1) (byteAt args 2) (byteAt args 3))
    | 0x31 => some (.unbindChannel tag (byteAt args 0))
    | 0x32 => some (.resyncChannel tag (byteAt args 0))
    | 0x33 => some (.readChannel tag (byteAt args 0) (byteAt args 1))
    | 0x34 => some (.setChannelOptions tag (byteAt args 0) (byteAt args 1) (byteAt args 2) (byteAt args 3) (byteAt args 4))
    | 0x40 => some (.placeHold tag (slotAt args 0) (wordAt 32 args 1 4) (wordAt 16 args 5 2))
    | 0x41 => some (.captureHold tag (wordAt 16 args 0 2) (wordAt 32 args 2 4))
    | 0x42 => some (.releaseHold tag (wordAt 16 args 0 2))
    | 0x43 => some (.readHold tag (wordAt 16 args 0 2))
    | 0x44 => some (.listHolds tag (slotAt args 0))
    | 0x45 => some (.drawHold tag (byteAt args 0) (wordAt 16 args 1 2))
    | 0x46 => some (.endDraw tag (byteAt args 0))
    | 0x50 => some (.restorePermit tag (byteAt args 0))
    | 0x51 => some (.cutPermit tag (byteAt args 0))
    | 0x60 => some (.setRefill tag (slotAt args 0) (slotAt args 1) (wordAt 32 args 2 4) (byteAt args 6))
    | 0x61 => some (.clearRefill tag (slotAt args 0))
    | 0x70 => some (.startSweep tag (byteAt args 0) (byteAt args 1) (wordAt 32 args 2 4) (byteAt args 6) (byteAt args 7))
    | 0x71 => some (.stopSweep tag)
    | 0x72 => some (.readSweep tag)
    | 0x80 => some (.setNotice tag (wordAt 16 args 0 2) (byteAt args 2) (byteAt args 3) (wordAt 16 args 4 2) (byteAt args 6))
    | 0x81 => some (.noticesOn tag)
    | 0x82 => some (.noticesOff tag)
    | 0x83 => some (.takeNotice tag)
    | 0x84 => some (.endNotice tag)
    | 0x85 => some (.readPending tag (wordAt 16 args 0 2))
    | 0x86 => some (.clearCauses tag (wordAt 16 args 0 2) (wordAt 16 args 2 2))
    | 0x87 => some (.readStack tag)
    | 0x90 => some (.rebuildAccount tag (slotAt args 0) (wordAt 40 args 1 5) (wordAt 32 args 6 4) (wordAt 32 args 10 4) (wordAt 40 args 14 5) (wordAt 48 args 19 6) (wordAt 48 args 25 6) (byteAt args 31))
    | 0x91 => some (.discardAccount tag (slotAt args 0))
    | 0x92 => some (.nextDamaged tag (slotAt args 0))
    | _ => none

/-- The command a table word spells: the opcode table gives no row any bits, so no word spells one. -/
def decodeTableWord (_nbits _w : Nat) : Option Instr := none

end Sys2Proof
end

