-- ==== Sys2Proof/Machine/State.lean ====
section
/-! DEFINITION. The state of the PA-256: every piece of state the spec gives it, the queue of commands, and the state
after reset. -/

namespace Sys2Proof.Machine

/-- Reasons to stop with a fault: none. No rule of the spec stops the block; a refused command is a response with a
status code (R170) and a damaged record is state (R147). -/
inductive Fault where
deriving DecidableEq, Repr

/-- Reasons to give a command no meaning. -/
inductive Refusal where
  /-- Raised by an arm of `exec` for a row that has no meaning yet; safe. No arm raises it now. -/
  | notModelled (mnemonic : String)
deriving DecidableEq, Repr

/-- The state of the part. -/
structure State where
  /-- The 256 account records (R1). -/
  accounts : Vector Account 256
  /-- The tag map: the pair of each slot, `none` while the slot is FREE (R2, R146). -/
  tagMap : Vector (Option MapPair) 256
  /-- The sixteen tariff entries (R31). -/
  tariffs : Vector Tariff 16
  /-- The eight channel records (R48, R90). -/
  channels : Vector Channel 8
  /-- The sixty-four hold entries (R70). -/
  holds : Vector Hold 64
  /-- Expiry requests issued and not yet taken, in the order issued (R78). -/
  expiryRequests : List Handle
  /-- The sweep record (R115). -/
  sweep : Sweep
  /-- The device record of the Notice Unit (R126). -/
  device : NoticeRec
  /-- The global notice enable (R141). -/
  globalEnable : Bool
  /-- The service stack, the top entry first (R131). -/
  stack : List StackEntry
  /-- The fault record (R132). -/
  faults : FaultRec
  /-- The supply phase (R155). -/
  phase : Phase
  /-- The cause of the most recent start (R155). -/
  startCause : StartCause
  /-- Reference present (R154). -/
  refPresent : Bool
  /-- Supply notice owed (R155). -/
  supplyNoticeOwed : Bool
  /-- The next slot the start check will verify, 0 to 256 (R155). -/
  checkPosition : Nat
  /-- Whether the retention mark is valid (R155). -/
  retention : Bool
  /-- REFCK periods counted since the last second event (R153). -/
  divider : Nat
  /-- The level of RESET_N: `true` is high (R159). -/
  resetN : Bool
  /-- Whether VBK was present when a row last told (R157). -/
  vbk : Bool
  /-- The response state of the Command Port (R164). -/
  port : PortState
  /-- The replay memory (R167). -/
  replay : Option ReplayEntry
  /-- The bytes SDO carried after the kind byte of the last FETCH transaction (R168). -/
  sdo : List Byte
  /-- The MODEL's own: second events counted, to pick the open order of a silent cut and a grace expiry (log 9). -/
  choice : Nat
  /-- The MODEL's own: the commands that wait, first in, first out. -/
  pending : List Instr
deriving DecidableEq, Repr

/-- The bit of START_DONE in the device's cause set (R177). -/
def startDoneBit : BitVec 16 := 0x0004

/-- The part right after a cold start with RESET_N high (R157, log 1): every table at its cold values, the phase RUN,
the start cause COLD, the retention mark valid and START_DONE raised. -/
def State.reset : State :=
  { accounts := Vector.replicate 256 .zero, tagMap := Vector.replicate 256 none, tariffs := Vector.replicate 16 .zero,
    channels := Vector.replicate 8 .zero, holds := Vector.replicate 64 .zero, expiryRequests := [], sweep := .zero,
    device := { NoticeRec.zero with pending := startDoneBit }, globalEnable := false, stack := [], faults := .zero,
    phase := .run, startCause := .cold, refPresent := true, supplyNoticeOwed := false, checkPosition := 0,
    retention := true, divider := 0, resetN := true, vbk := true, port := .empty, replay := none, sdo := [],
    choice := 0, pending := [] }

end Sys2Proof.Machine
end

