-- ==== Sys2Proof/Machine/Operands.lean ====
section
/-! DEFINITION. The operand and result forms of the Command Port: named values, choices, handles, source numbers and the
bytes of a result (R169 to R177). -/

namespace Sys2Proof.Machine

/-- A yes or no, on or off, force or clear option argument; `none` for a value that is neither (R171). -/
def choiceArg (b : Byte) : Option Bool :=
  if b = 0x00 then some false else if b = 0x01 then some true else none

/-- A choice or mark in a result (R171). -/
def choiceByte (b : Bool) : Byte := if b then 0x01 else 0x00

/-- The kind argument (R171). -/
def kindArg (b : Byte) : Option Kind :=
  if b = 0x00 then some .consumer else if b = 0x01 then some .pool else none

/-- The direction argument of ADJUST and START SWEEP (R171). -/
def dirArg (b : Byte) : Option SweepDir :=
  if b = 0x00 then some .debit else if b = 0x01 then some .credit else none

/-- The rounding mode argument (R171). -/
def roundingArg (b : Byte) : Option Rounding :=
  if b = 0x00 then some .truncate else if b = 0x01 then some .nearest else none

/-- The class selector argument: 0 to 15, or FFh for ALL (R171). -/
def selectorArg (b : Byte) : Option Selector :=
  if b = 0xFF then some .all
  else if b.toNat ≤ 15 then some (.cls (Fin.ofNat 16 b.toNat)) else none

/-- A channel number argument, `none` above 7. -/
def channelArg (b : Byte) : Option Chan :=
  if b.toNat ≤ 7 then some (Fin.ofNat 8 b.toNat) else none

/-- A tariff index argument, `none` above 15. -/
def tariffArg (b : Byte) : Option TariffIdx :=
  if b.toNat ≤ 15 then some (Fin.ofNat 16 b.toNat) else none

/-- The handle a 16-bit value spells: index modulo 64, generation the quotient (R71). -/
def Handle.ofWord (w : BitVec 16) : Handle :=
  ⟨Fin.ofNat 1024 (w.toNat / 64), Fin.ofNat 64 w.toNat⟩

/-- The value of a handle: generation x 64 + index (R71). -/
def Handle.value (h : Handle) : Nat := h.gen.val * 64 + h.idx.val

/-- The source number of a source (R126). -/
def Source.number : Source → Nat
  | .device => 0x0000
  | .channel c => 0x0100 + c.val
  | .account i => 0x0200 + i.val
  | .fault => 0xFFFF

/-- The source a number names, `none` for a number that is none of those of R126. -/
def Source.ofNumber (w : BitVec 16) : Option Source :=
  let n := w.toNat
  if n = 0x0000 then some .device
  else if 0x0100 ≤ n ∧ n ≤ 0x0107 then some (.channel (Fin.ofNat 8 (n - 0x0100)))
  else if 0x0200 ≤ n ∧ n ≤ 0x02FF then some (.account (Fin.ofNat 256 (n - 0x0200)))
  else if n = 0xFFFF then some .fault
  else none

/-- The bits that name a cause of a source's kind (R177). -/
def Source.causeBits : Source → BitVec 16
  | .device => 0x0007
  | .channel _ => 0x00FF
  | .account _ => 0x03FF
  | .fault => 0x0007

/-- Whether a cause set holds causes of the source's kind only (R126, R177). -/
def Source.accepts (src : Source) (causes : BitVec 16) : Bool :=
  causes &&& ~~~src.causeBits == 0

/-- An unsigned field of `n` bytes (R171). -/
def natField (n v : Nat) : List Byte := leBytes n v

/-- A signed field of four bytes, two's complement (R171). -/
def int32Field (v : Int) : List Byte := leBytes 4 (BitVec.ofInt 32 v).toNat

/-- A signed 40-bit field of five bytes, two's complement (R171). -/
def int40Field (v : Int) : List Byte := leBytes 5 (BitVec.ofInt 40 v).toNat

/-- The code of an account state (R171). -/
def LifeState.code : LifeState → Byte
  | .free => 0x00 | .opened => 0x01 | .frozen => 0x02 | .retired => 0x03 | .damaged => 0x04

/-- The code of a kind (R171). A record that answers READ ACCOUNT or REBUILD ACCOUNT is never `corrupt`; it would be
sent as 02h, outside the list (log 27). -/
def Kind.code : Kind → Byte
  | .consumer => 0x00 | .pool => 0x01 | .corrupt => 0x02

/-- The code of a sweep direction (R171). -/
def SweepDir.code : SweepDir → Byte
  | .debit => 0x00 | .credit => 0x01

/-- The code of a rounding mode (R171). -/
def Rounding.code : Rounding → Byte
  | .truncate => 0x00 | .nearest => 0x01

/-- The code of a channel state (R171). -/
def ChanState.code : ChanState → Byte
  | .unbound => 0x00 | .live => 0x01 | .parked => 0x02

/-- The code of a permit state (R171). -/
def Permit.code : Permit → Byte
  | .off => 0x00 | .on => 0x01 | .grace => 0x02

/-- The code of a phase; only RUN and STARTING are ever sent (R171). -/
def Phase.code : Phase → Byte
  | .run => 0x00 | .starting => 0x01 | .retain => 0x02 | .off => 0x03

/-- The code of a start cause (R171). -/
def StartCause.code : StartCause → Byte
  | .cold => 0x00 | .erase => 0x01 | .supply => 0x02 | .resetPin => 0x03 | .restart => 0x04

/-- The code of a sweep state (R171). -/
def SweepState.code : SweepState → Byte
  | .idle => 0x00 | .running => 0x01

/-- The code of a sweep ending (R171). -/
def Ending.code : Ending → Byte
  | .none => 0x00 | .done => 0x01 | .stopped => 0x02 | .interrupted => 0x03

/-- The byte of a class selector (R171). -/
def Selector.code : Selector → Byte
  | .cls n => BitVec.ofNat 8 n.val
  | .all => 0xFF

/-- The status codes (R170). -/
def Status.code : Status → Byte
  | .ok => 0x00 | .frameBad => 0x01 | .frameShort => 0x02 | .unknownCommand => 0x03 | .badLength => 0x04
  | .starting => 0x05 | .badArgument => 0x06 | .notFound => 0x07 | .wrongState => 0x08 | .wrongKind => 0x09
  | .noSlot => 0x0A | .duplicateTag => 0x0B | .bound => 0x0C | .inUse => 0x0D | .insufficient => 0x0E
  | .overCeiling => 0x0F | .holdsFull => 0x10 | .accountHoldsFull => 0x11 | .holdGone => 0x12 | .busy => 0x13
  | .nothingPending => 0x14 | .stackEmpty => 0x15 | .damaged => 0x16

/-- The sync field in a result (R171). -/
def syncByte : Option (Fin 16) → Byte
  | none => 0xFF
  | some n => BitVec.ofNat 8 n.val

/-- The bytes of a byte of flags, bit 0 first in the list. -/
def flagByte : List Bool → Nat
  | [] => 0
  | b :: bs => (if b then 1 else 0) + 2 * flagByte bs

/-- The pool slot, refill amount and refill count of a specification, zeros when it is absent (R171). -/
def refillFields : Option RefillSpec → Nat × Nat × Nat
  | some r => (r.pool.val, r.amount, r.count)
  | none => (0, 0, 0)

/-- The bytes of a specification in a result, zeros when it is absent (R106, R171, log 15). -/
def refillResult (r : Option RefillSpec) : List Byte :=
  natField 1 (refillFields r).1 ++ natField 4 (refillFields r).2.1 ++ natField 1 (refillFields r).2.2

/-- A response frame from the status code to the check byte (R173). -/
def Response.bytes (r : Response) : List Byte :=
  let body := [r.status.code, choiceByte r.replayed, r.tagEcho, r.numberEcho, BitVec.ofNat 8 r.result.length] ++ r.result
  body ++ [crc8 0x00 body]

end Sys2Proof.Machine
end

