-- ==== Sys2Proof/Machine/Flags.lean ====
section
/-! DEFINITION. The causes, and the conditions of an account, of a channel and of a source that other rules ask for. -/

namespace Sys2Proof.Machine

/-! The bits of the causes (R177). -/

namespace Cause
def low : BitVec 16 := 0x0001
def empty : BitVec 16 := 0x0002
def clamped : BitVec 16 := 0x0004
def overrun : BitVec 16 := 0x0008
def holdExpired : BitVec 16 := 0x0010
def holdBroken : BitVec 16 := 0x0020
def holdSpent : BitVec 16 := 0x0040
def refillFailed : BitVec 16 := 0x0080
def refillsSpent : BitVec 16 := 0x0100
def poolShort : BitVec 16 := 0x0200
def gap : BitVec 16 := 0x0001
def duplicate : BitVec 16 := 0x0002
def badFrame : BitVec 16 := 0x0004
def silent : BitVec 16 := 0x0008
def stray : BitVec 16 := 0x0010
def tamper : BitVec 16 := 0x0020
def deferSaturated : BitVec 16 := 0x0040
def cut : BitVec 16 := 0x0080
def sweepDone : BitVec 16 := 0x0001
def sweepStopped : BitVec 16 := 0x0002
def startDone : BitVec 16 := startDoneBit
def recordDamaged : BitVec 16 := 0x0001
def timeBaseLost : BitVec 16 := 0x0002
def supplyReturned : BitVec 16 := 0x0004
end Cause

/-- A cause is raised by setting it in the pending causes, whatever the settings (R128). -/
def NoticeRec.raise (cause : BitVec 16) (n : NoticeRec) : NoticeRec := { n with pending := n.pending ||| cause }

/-- A fault cause is raised (R132). -/
def FaultRec.raise (cause : BitVec 16) (f : FaultRec) : FaultRec := { f with pending := f.pending ||| cause }

/-- An eight-bit counter that stops at 255. -/
def satCount (n by_ : Nat) : Nat := min (n + by_) Config.maxCounter

/-- A total that stops at 2^48 - 1 (R11). -/
def addTotal (total amount : Nat) : Nat := min (total + amount) Config.maxTotal

/-! Derived amounts and conditions of an account (R5). -/

/-- The 16-bit check word the record carries (R146, log 5). -/
def Account.checkWord (a : Account) : BitVec 16 := Config.checkWord { a with syndrome := 0 } ^^^ a.syndrome

/-- Free balance: balance less held total. -/
def Account.freeBalance (a : Account) : Int := a.balance - a.heldTotal

/-- Spendable: free balance less floor. -/
def Account.spendable (a : Account) : Int := a.freeBalance - a.floor

/-- LOW holds: free balance at or below the low mark. -/
def Account.lowNow (a : Account) : Bool := decide (a.freeBalance ≤ a.lowMark)

/-- EMPTY holds: free balance at or below the floor. -/
def Account.emptyNow (a : Account) : Bool := decide (a.freeBalance ≤ a.floor)

/-- NEGATIVE holds: balance below zero. -/
def Account.negative (a : Account) : Bool := decide (a.balance < 0)

/-- WIDE holds: balance outside -2^31 to 2^31 - 1. -/
def Account.wide (a : Account) : Bool := decide (a.balance < Config.windowLow ∨ Config.windowHigh < a.balance)

/-- A live account is OPEN or FROZEN (R18). -/
def LifeState.live (l : LifeState) : Bool := l = .opened || l = .frozen

/-- Whether a floor, low mark and ceiling keep the ranges of R1 and the ordering of R6. -/
def limitsValid (floor lowMark ceiling : Int) : Bool :=
  decide (Config.windowLow ≤ floor ∧ floor ≤ 0 ∧ floor ≤ lowMark ∧ lowMark ≤ Config.windowHigh ∧ lowMark < ceiling ∧
    1 ≤ ceiling ∧ ceiling ≤ Config.maxBalance)

/-! Conditions of a channel. -/

/-- A channel is bound while it is LIVE or PARKED (R50). -/
def Channel.bound (ch : Channel) : Bool := ch.state ≠ .unbound

/-- Whether a channel is bound to the account in a slot. -/
def Channel.boundTo (i : Slot) (ch : Channel) : Bool := ch.bound && ch.slot = i

/-- Silent cut and SILENT are both set (R91). -/
def Channel.silencedOff (ch : Channel) : Bool := ch.silentCut && ch.silent

/-- A channel is eligible (R91). -/
def Channel.eligible (ch : Channel) : Bool :=
  ch.state = .live && !ch.emptyMark && !ch.cutLatch && !ch.hostCut && !ch.silencedOff

/-- Whether a bound channel names a tariff entry in either direction (R32). -/
def Channel.names (t : TariffIdx) (ch : Channel) : Bool :=
  ch.bound && (ch.importTariff = t || ch.exportTariff = t)

end Sys2Proof.Machine
end

