-- ==== Sys2Proof/Machine/Permit.lean ====
section
/-! DEFINITION. The Permit Unit's work on one channel (R90 to R99) and the Meter Channel's own fields (R47, R57 to R60):
functions of the channel record alone. `live` says whether a notice of a changed condition is acted upon: it is not while
the phase is STARTING, up to the redrive (R102, R103). -/

namespace Sys2Proof.Machine

/-- A cause raised on a channel (R61). -/
def Channel.raise (cause : BitVec 16) (ch : Channel) : Channel := { ch with notice := ch.notice.raise cause }

/-- The permit withdrawn without a latch and without a cause (R93, R97). -/
def Channel.permitOff (ch : Channel) : Channel := { ch with permit := .off, graceRemaining := 0 }

/-- A cut: permit OFF, latch set, CUT raised in the same event (R94, R96, R99). -/
def Channel.cut (ch : Channel) : Channel := ({ ch.permitOff with cutLatch := true }).raise Cause.cut

/-- What "EMPTY entered" does to an ON channel: grace, or a cut when the grace option is 0 (R94). -/
def Channel.runDry (ch : Channel) : Channel :=
  if 0 < ch.grace then { ch with permit := .grace, graceRemaining := ch.grace } else ch.cut

/-- Evaluation of a channel's permit (R93). -/
def Channel.evaluate (ch : Channel) : Channel :=
  if ch.state = .unbound then ch
  else match ch.permit with
    | .off => if ch.eligible then { ch with permit := .on } else ch
    | .on =>
      if ch.state ≠ .live ∨ ch.cutLatch ∨ ch.hostCut ∨ ch.silencedOff then ch.permitOff
      else if ch.emptyMark then ch.runDry else ch
    | .grace =>
      if ch.state ≠ .live ∨ ch.cutLatch ∨ ch.hostCut ∨ ch.silencedOff then ch.permitOff
      else if ch.emptyMark then ch else { ch with permit := .on, graceRemaining := 0 }

/-- A notice of a changed channel condition (R60): evaluated when notices are acted upon (R102). -/
def Channel.notify (live : Bool) (ch : Channel) : Channel := if live then ch.evaluate else ch

/-- "EMPTY entered" (R94). -/
def Channel.emptyEntered (ch : Channel) : Channel :=
  let ch := { ch with emptyMark := true }
  match ch.permit with
  | .on => ch.runDry
  | .grace => ch
  | .off => ch

/-- "EMPTY left" (R95). -/
def Channel.emptyLeft (live : Bool) (ch : Channel) : Channel :=
  let ch := { ch with emptyMark := false }
  match ch.permit with
  | .grace => { ch with permit := .on, graceRemaining := 0 }
  | .on => ch
  | .off => ({ ch with cutLatch := ch.cutLatch && !ch.autoRestore }).notify live

/-- LIVE to PARKED, told to the Permit Unit (R50, R97). -/
def Channel.park (live : Bool) (ch : Channel) : Channel :=
  if ch.state = .live then ({ ch with state := .parked }).notify live else ch

/-- PARKED to LIVE by THAW, evaluated (R97). -/
def Channel.unpark (ch : Channel) : Channel :=
  if ch.state = .parked then ({ ch with state := .live }).evaluate else ch

/-- To UNBOUND (R64 step 5, R97): fields of the binding cleared, permit OFF, account-empty mark clear; the drawing hold
and the deferred quantities are absent and zero in every UNBOUND channel (R57, R63). -/
def Channel.unbind (ch : Channel) : Channel :=
  { ch.permitOff with
    state := .unbound, slot := 0, importTariff := 0, exportTariff := 0, sync := none, drawing := none,
    deferredImport := 0, deferredExport := 0, emptyMark := false }

/-- The silence counter reloaded and SILENT cleared, the clearing told to the Permit Unit (R59, R60). -/
def Channel.reloadSilence (live : Bool) (ch : Channel) : Channel :=
  let reloaded := { ch with silenceCounter := ch.silenceTimeout, silent := false }
  if ch.silent then reloaded.notify live else reloaded

/-- A deferred quantity, by direction. -/
def Channel.deferred (flow : Flow) (ch : Channel) : Nat :=
  match flow with
  | .imp => ch.deferredImport
  | .exp => ch.deferredExport

/-- A deferred quantity replaced. -/
def Channel.setDeferred (flow : Flow) (q : Nat) (ch : Channel) : Channel :=
  match flow with
  | .imp => { ch with deferredImport := q }
  | .exp => { ch with deferredExport := q }

/-- A quantity added to the deferred quantity of its direction, with saturation (R57). DEFER_SATURATED is raised when some
of the quantity is lost (R61); a quantity of 0 added at 2^32 - 1 loses nothing and raises nothing. DESIGN CHOICE, log 29,
unsafe. -/
def Channel.defer (flow : Flow) (q : Nat) (ch : Channel) : Channel :=
  if ch.deferred flow + q ≤ Config.maxDeferred then ch.setDeferred flow (ch.deferred flow + q)
  else (ch.setDeferred flow Config.maxDeferred).raise Cause.deferSaturated

/-- The untaken usage-charge requests withdrawn into the deferred quantities, in the order issued (R58). -/
def Channel.withdraw (ch : Channel) : Channel :=
  ch.requests.foldl (fun c r => c.defer r.flow r.quantity) { ch with requests := [] }

/-- A bad frame: discarded, counted, BAD_FRAME raised; the receiver hunts again (R45, R47). -/
def Channel.badFrame (ch : Channel) : Channel :=
  ({ ch with badFrames := satCount ch.badFrames 1, receiver := .hunting }).raise Cause.badFrame

/-- The Permit Unit's part of a second event (R96). -/
def Channel.graceTick (ch : Channel) : Channel :=
  if ch.permit = .grace then
    if ch.graceRemaining ≤ 1 then ch.cut else { ch with graceRemaining := ch.graceRemaining - 1 }
  else ch

/-- The Meter Channel's part of a second event (R59), SILENT told to the Permit Unit (R98). -/
def Channel.silenceTick (ch : Channel) : Channel :=
  if ch.bound ∧ 0 < ch.silenceTimeout ∧ 0 < ch.silenceCounter then
    if ch.silenceCounter = 1 then
      (({ ch with silenceCounter := 0, silent := true }).raise Cause.silent).evaluate
    else { ch with silenceCounter := ch.silenceCounter - 1 }
  else ch

/-- One second event on one channel. The two parts may be taken in either order (R153); where the orders differ (the
grace runs out in the event in which SILENT cuts, R96), a free value picks (log 9). -/
def Channel.secondTick (silenceFirst : Bool) (ch : Channel) : Channel :=
  if ch.graceTick.silenceTick = ch.silenceTick.graceTick then ch.graceTick.silenceTick
  else if silenceFirst then ch.silenceTick.graceTick else ch.graceTick.silenceTick

end Sys2Proof.Machine
end

