-- ==== Sys2Proof/Machine/Ops.lean ====
section
/-! DEFINITION. The named operations over the tables: access to records, causes, damage, reading with verification,
freeing of holds, and the computed pins. -/

namespace Sys2Proof.Machine

/-! Access to the tables. -/

/-- The account record of a slot. -/
def State.account (s : State) (i : Slot) : Account := s.accounts.get i

/-- The pair of a slot in the tag map, `none` while it is FREE (R146). -/
def State.pair (s : State) (i : Slot) : Option MapPair := s.tagMap.get i

/-- A tariff entry. -/
def State.tariff (s : State) (t : TariffIdx) : Tariff := s.tariffs.get t

/-- A channel record. -/
def State.channel (s : State) (c : Chan) : Channel := s.channels.get c

/-- A hold entry. -/
def State.hold (s : State) (h : HoldIdx) : Hold := s.holds.get h

/-- A record is written; every write recomputes its check word (R146). -/
def State.setAccount (s : State) (i : Slot) (a : Account) : State :=
  { s with accounts := s.accounts.set i.val { a with syndrome := 0 } i.isLt }

/-- A slot's place in the tag map. -/
def State.setPair (s : State) (i : Slot) (p : Option MapPair) : State :=
  { s with tagMap := s.tagMap.set i.val p i.isLt }

/-- A tariff entry is written. -/
def State.setTariff (s : State) (t : TariffIdx) (e : Tariff) : State :=
  { s with tariffs := s.tariffs.set t.val e t.isLt }

/-- A channel record is written. -/
def State.setChannel (s : State) (c : Chan) (ch : Channel) : State :=
  { s with channels := s.channels.set c.val ch c.isLt }

/-- A hold entry is written. -/
def State.setHold (s : State) (h : HoldIdx) (e : Hold) : State :=
  { s with holds := s.holds.set h.val e h.isLt }

/-- A record changed by a function of it. -/
def State.modifyAccount (s : State) (i : Slot) (f : Account → Account) : State := s.setAccount i (f (s.account i))

/-- A tariff entry changed by a function of it. -/
def State.modifyTariff (s : State) (t : TariffIdx) (f : Tariff → Tariff) : State := s.setTariff t (f (s.tariff t))

/-- A channel record changed by a function of it. -/
def State.modifyChannel (s : State) (c : Chan) (f : Channel → Channel) : State := s.setChannel c (f (s.channel c))

/-- A hold entry changed by a function of it. -/
def State.modifyHold (s : State) (h : HoldIdx) (f : Hold → Hold) : State := s.setHold h (f (s.hold h))

/-- A table given by a function of the place. -/
@[irreducible] def tabulate {α : Type} {n : Nat} (f : Fin n → α) : Vector α n := Vector.ofFn f

/-- Every channel changed by a function of its number and record. -/
def State.mapChannels (s : State) (f : Chan → Channel → Channel) : State :=
  { s with channels := tabulate (fun c => f c (s.channel c)) }

/-- Every channel bound to a slot changed by a function of its record. -/
def State.mapBound (s : State) (i : Slot) (f : Channel → Channel) : State :=
  s.mapChannels (fun _ ch => if ch.boundTo i then f ch else ch)

/-- Every hold entry changed by a function of its index and contents. -/
def State.mapHolds (s : State) (f : HoldIdx → Hold → Hold) : State :=
  { s with holds := tabulate (fun h => f h (s.hold h)) }

/-- The channel numbers, ascending. -/
def allChannels : List Chan := List.finRange 8

/-- The slots, ascending. -/
def allSlots : List Slot := List.finRange 256

/-- The hold entries, ascending. -/
def allHolds : List HoldIdx := List.finRange 64

/-- The lifecycle state the map holds for a slot, FREE where there is no pair (R146). -/
def State.mapState (s : State) (i : Slot) : LifeState :=
  match s.pair i with
  | none => .free
  | some p => p.state

/-- Whether notices of changed channel conditions are acted upon: not while the phase is STARTING (R102). -/
def State.noticesLive (s : State) : Bool := s.phase = .run

/-- Whether second events are issued: in RUN with the reference present (R153, R154). -/
def State.secondsRun (s : State) : Bool := s.phase = .run && s.refPresent

/-- Whether the port and the report lines are served: VDD is present (R155, R163). -/
def State.powered (s : State) : Bool := s.phase = .run || s.phase = .starting

/-! Causes. -/

/-- A cause raised on an account (R17). -/
def State.raiseAccount (s : State) (i : Slot) (cause : BitVec 16) : State :=
  s.modifyAccount i (fun a => { a with notice := a.notice.raise cause })

/-- A cause raised on the device (R121). -/
def State.raiseDevice (s : State) (cause : BitVec 16) : State := { s with device := s.device.raise cause }

/-- A cause raised in the fault record (R132). -/
def State.raiseFault (s : State) (cause : BitVec 16) : State := { s with faults := s.faults.raise cause }

/-! Holds. -/

/-- Whether a handle is honoured: its entry is HELD with its generation (R71). -/
def State.honoured (s : State) (h : Handle) : Bool := (s.hold h.idx).held && (s.hold h.idx).generation = h.gen

/-- The handle of an entry as it stands (R71). -/
def State.handleOf (s : State) (h : HoldIdx) : Handle := ⟨(s.hold h).generation, h⟩

/-- A hold entry as freeing leaves it (R72). -/
def Hold.freed (e : Hold) : Hold := ⟨false, e.generation + 1, 0, 0, 0, false, none⟩

/-- The drawing of a channel ended (R72, R85). -/
def State.endDrawing (s : State) (c : Option Chan) : State :=
  match c with
  | some c => s.modifyChannel c (fun ch => { ch with drawing := none })
  | none => s

/-- Freeing of a hold of the account in slot `i` (R72). -/
def State.freeHold (s : State) (i : Slot) (h : HoldIdx) : State :=
  let e := s.hold h
  ((s.modifyAccount i (fun a =>
      { a with holdList := a.holdList.erase h, heldTotal := a.heldTotal - e.amount })).endDrawing e.drawnBy).setHold h e.freed

/-- The drawing hold of a channel, while its handle is honoured. -/
def State.drawnHold (s : State) (c : Chan) : Option HoldIdx :=
  match (s.channel c).drawing with
  | some h => if s.honoured h then some h.idx else none
  | none => none

/-- The drawing of a channel ended at both ends: the channel's drawing hold and the hold's drawn-by field (R85). -/
def State.stopDrawing (s : State) (c : Chan) : State :=
  let s1 := match s.drawnHold c with
    | some h => s.modifyHold h (fun e => { e with drawnBy := none })
    | none => s
  s1.modifyChannel c (fun ch => { ch with drawing := none })

/-! Damage (R147). -/

/-- Whether a HELD entry reserves against the account in slot `i`. -/
def Hold.against (i : Slot) (e : Hold) : Bool := e.held && e.slot = i

/-- Whether some HELD entry against slot `i` is drawn by channel `c`. -/
def State.drawsAgainst (s : State) (i : Slot) (c : Chan) : Bool :=
  s.holds.any (fun e => e.against i && e.drawnBy = some c)

/-- A channel when the account in slot `i` is found damaged: a LIVE one is PARKED and its permit turned OFF as for any
channel that leaves LIVE; during the start check every bound one has its permit set OFF (R102, R147 step 3). -/
def Channel.parkDamaged (running : Bool) (ch : Channel) : Channel :=
  if running then ch.park true else ({ ch with state := .parked }).permitOff

/-- The record of an account found damaged: every other field is left as read (R147 steps 1 and 2). -/
def Account.foundDamaged (a : Account) : Account := { a with state := .damaged, holdList := [], heldTotal := 0 }

/-- Channel `c` when the account in slot `i` is found damaged: its drawing on a hold of the account ended, and parked when
it is bound to the account (R147 steps 2 and 3). -/
def State.damageChannel (s : State) (i : Slot) (c : Chan) (ch : Channel) : Channel :=
  let undrawn := if s.drawsAgainst i c then { ch with drawing := none } else ch
  if undrawn.boundTo i then undrawn.parkDamaged s.noticesLive else undrawn

/-- A hold entry when the account in slot `i` is found damaged (R147 step 2). -/
def Hold.damage (i : Slot) (e : Hold) : Hold := if e.against i then e.freed else e

/-- RECORD_DAMAGED raised and counted (R132, R147 step 4). -/
def FaultRec.countDamage (f : FaultRec) : FaultRec :=
  { f.raise Cause.recordDamaged with damagedCount := satCount f.damagedCount 1 }

/-- The consequences of a check word mismatch on the record of slot `i`, steps 1 to 4 of R147. -/
def State.damage (s : State) (i : Slot) : State :=
  let marked := (s.setPair i ((s.pair i).map (fun p => { p with state := .damaged }))).modifyAccount i Account.foundDamaged
  { (marked.mapChannels (s.damageChannel i)).mapHolds (fun _ e => e.damage i) with faults := s.faults.countDamage }

/-- What a request finds when it reads the record of a slot (R146). -/
inductive Lookup where
  | free
  | damaged
  | sound (a : Account)
deriving DecidableEq, Repr

/-- A request reads the record of a slot: FREE and DAMAGED are told by the map; any other record is verified, and a
mismatch has the consequences of R147 (R4, R146). -/
def State.readRecord (s : State) (i : Slot) : State × Lookup :=
  if s.mapState i = .free then (s, .free)
  else if s.mapState i = .damaged then (s, .damaged)
  else if (s.account i).syndrome = 0 then (s, .sound (s.account i))
  else (s.damage i, .damaged)

/-- An account's lifecycle state changed, in the map and in the record (R146). -/
def State.setLife (s : State) (i : Slot) (l : LifeState) : State :=
  (s.setPair i ((s.pair i).map (fun p => { p with state := l }))).modifyAccount i (fun a => { a with state := l })

/-! Refill specifications (R104, R108). -/

/-- Whether a record's specification names the pool in slot `p`. -/
def Account.namesPool (p : Slot) (a : Account) : Bool :=
  match a.refill with
  | some r => r.pool = p
  | none => false

/-- The number of specifications that name the pool in slot `p`, over the fields of all records as they stand: the records
counted are not verified (R108, R151). DESIGN CHOICE, log 31, unsafe. -/
def State.specsNaming (s : State) (p : Slot) : Nat := s.accounts.toList.countP (Account.namesPool p)

/-- The number of channels bound to slot `i`. -/
def State.channelsBound (s : State) (i : Slot) : Nat := s.channels.toList.countP (Channel.boundTo i)

/-- The dependents count of a pool lowered after a specification that named it is gone (R108). R108 and R151 are silent
where a corrupted specification was never counted: a count of 0 stays at 0, and a sound record is lowered whatever its kind
and state. DESIGN CHOICE, log 33, unsafe. -/
def State.lowerDependents (s : State) (p : Slot) : State :=
  match s.readRecord p with
  | (s1, .sound a) => s1.setAccount p { a with dependents := a.dependents - 1 }
  | (s1, .damaged) => s1.modifyAccount p (fun a => { a with dependents := s1.specsNaming p })
  | (s1, .free) => s1

/-- A record's specification removed, and the dependents count of the pool it named lowered (R106 to R108). -/
def State.dropRefill (s : State) (i : Slot) : State :=
  match (s.account i).refill with
  | some r => (s.modifyAccount i (fun a => { a with refill := none })).lowerDependents r.pool
  | none => s

/-- Whether the slot a damaged record's specification names is a POOL in OPEN, FROZEN or DAMAGED; the record asked is
read and verified (R151, R152, log 19). -/
def State.readPool (s : State) (p : Slot) : State × Bool :=
  match s.readRecord p with
  | (s1, .sound a) => (s1, a.kind = .pool && a.state.live)
  | (s1, .damaged) => (s1, (s1.account p).kind = .pool)
  | (s1, .free) => (s1, false)

/-! The tables at their cold values (R3, R33, R49, R70, R115, R127, R132). -/

/-- Every table at its cold values. -/
def State.coldTables (s : State) : State :=
  { s with
    accounts := Vector.replicate 256 .zero, tagMap := Vector.replicate 256 none, tariffs := Vector.replicate 16 .zero,
    channels := Vector.replicate 8 .zero, holds := Vector.replicate 64 .zero, expiryRequests := [], sweep := .zero,
    device := .zero, globalEnable := false, stack := [], faults := .zero }

/-! Notice sources (R126 to R133). -/

/-- The record of a source other than the fault source; the fault source has none. -/
def State.noticeOf (s : State) : Source → NoticeRec
  | .device => s.device
  | .channel c => (s.channel c).notice
  | .account i => (s.account i).notice
  | .fault => .zero

/-- The record of a source replaced. -/
def State.setNoticeOf (s : State) (src : Source) (n : NoticeRec) : State :=
  match src with
  | .device => { s with device := n }
  | .channel c => s.modifyChannel c (fun ch => { ch with notice := n })
  | .account i => s.modifyAccount i (fun a => { a with notice := n })
  | .fault => s

/-- Whether a source requests, the global enable being on (R129). -/
def NoticeRec.asks (n : NoticeRec) : Bool := n.enable && decide (1 ≤ n.level.val) && n.pending &&& n.mask != 0

/-- Whether an account in this state can request (R129). -/
def LifeState.canRequest (l : LifeState) : Bool := l = .opened || l = .frozen || l = .retired

/-- Whether a source requests (R129). -/
def State.requesting (s : State) (src : Source) : Bool :=
  s.globalEnable &&
    match src with
    | .device => s.device.asks
    | .channel c => (s.channel c).notice.asks
    | .account i => (s.mapState i).canRequest && (s.account i).notice.asks
    | .fault => false

/-- The sources of R126 but for the fault source, by rising source number. -/
def allSources : List Source := .device :: (allChannels.map .channel ++ allSlots.map .account)

/-- Whether a source stands before another of lower source number: by level, then by group (R130). -/
def NoticeRec.beats (n m : NoticeRec) : Bool :=
  decide (m.level < n.level) || (decide (m.level = n.level) && decide (m.group < n.group))

/-- The better of the winner so far and the next source in number order. -/
def State.contest (s : State) (best : Option Source) (src : Source) : Option Source :=
  if s.requesting src then
    match best with
    | none => some src
    | some b => if (s.noticeOf src).beats (s.noticeOf b) then some src else some b
  else best

/-- The winner of the arbitration (R130). -/
def State.winner (s : State) : Option Source :=
  if s.globalEnable then allSources.foldl s.contest none else none

/-- The current level: that of the top entry, 0 when the stack is empty (R131). -/
def State.currentLevel (s : State) : Nat :=
  match s.stack with
  | [] => 0
  | e :: _ => e.level

/-! The pins the state drives. -/

/-- ATTN asserted, that is, driven low (R133). -/
def State.attn (s : State) : Bool :=
  s.phase = .run &&
    ((s.faults.pending != 0 && decide (s.currentLevel < Config.faultLevel)) ||
      match s.winner with
      | some w => decide (s.currentLevel < (s.noticeOf w).level.val)
      | none => false)

/-- PMTc driven high (R92). -/
def State.pmt (s : State) (c : Chan) : Bool := s.phase = .run && (s.channel c).permit ≠ .off

/-- RDY driven high (R164): a response is held, in RUN and STARTING. -/
def State.rdy (s : State) : Bool :=
  s.powered &&
    match s.port with
    | .ready _ => true
    | .busy _ => false
    | .empty => false

end Sys2Proof.Machine
end

