-- ==== Sys2Proof/Machine/Settle.lean ====
section
/-! DEFINITION. Movements (R7 to R11), the settle sequence (R12 to R16) with the refill attempt (R109 to R114) and the
breaking of holds (R81), and the charge calculation and its application (R34 to R39, R83, R84). -/

namespace Sys2Proof.Machine

/-! Movements of one record. -/

/-- A debit applied to the balance and counted in the charged total (R11). -/
def Account.debit (amount : Nat) (a : Account) : Account :=
  { a with balance := a.balance - amount, charged := addTotal a.charged amount }

/-- A credit applied to the balance and counted in the credited total (R11). -/
def Account.credit (amount : Nat) (a : Account) : Account :=
  { a with balance := a.balance + amount, credited := addTotal a.credited amount }

/-- The amount a usage debit applies: up to the distance to -2^39 (R7). -/
def Account.debitApplied (amount : Nat) (a : Account) : Nat := min amount (a.balance - Config.minBalance).toNat

/-- A usage debit (R7): never refused; OVERRUN set and raised when it is cut short. -/
def Account.usageDebit (amount : Nat) (a : Account) : Account :=
  let applied := a.debitApplied amount
  let moved := a.debit applied
  if applied < amount then { moved with overrun := true, notice := moved.notice.raise Cause.overrun } else moved

/-- The headroom: ceiling less balance (R8). -/
def Account.headroom (a : Account) : Nat := (a.ceiling - a.balance).toNat

/-- The amount a clamped credit applies: up to the headroom (R8). -/
def Account.creditApplied (amount : Nat) (a : Account) : Nat := min amount a.headroom

/-- A clamped credit (R8): CLAMPED set and raised when it is cut short. -/
def Account.clampedCredit (amount : Nat) (a : Account) : Account :=
  let applied := a.creditApplied amount
  let moved := a.credit applied
  if applied < amount then { moved with clamped := true, notice := moved.notice.raise Cause.clamped } else moved

/-- Stage (d): LOW and EMPTY evaluated, causes raised on entry, the stored states set (R15). -/
def Account.evaluate (a : Account) : Account :=
  let onEmpty := if a.emptyNow && !a.empty then a.notice.raise Cause.empty else a.notice
  let onLow := if a.lowNow && !a.low then onEmpty.raise Cause.low else onEmpty
  { a with notice := onLow, low := a.lowNow, empty := a.emptyNow }

/-! Stage (b): the refill attempt. -/

/-- Whether stage (b) makes an attempt (R13). -/
def Account.wantsRefill (a : Account) : Bool :=
  a.kind = .consumer && a.state = .opened && !a.low && a.lowNow &&
    match a.refill with
    | some r => r.count ≠ 0
    | none => false

/-- The consumer's record after a transfer: credited, and its limited count lowered, REFILLS_SPENT raised when the count
goes from 1 to 0 (R112). -/
def Account.refilled (r : RefillSpec) (amount : Nat) (a : Account) : Account :=
  let credited := a.credit amount
  if r.count = 255 then credited
  else
    let counted := { credited with refill := some { r with count := r.count - 1 } }
    if r.count = 1 then { counted with notice := counted.notice.raise Cause.refillsSpent } else counted

/-- The refill attempt on the consumer in slot `i` under its specification (R109 to R113). R109 meets no named record but a
POOL in OPEN, FROZEN or DAMAGED; where corruption has left a specification naming another, its state alone decides. DESIGN
CHOICE, log 33, unsafe. -/
def State.refillAttempt (s : State) (i : Slot) (r : RefillSpec) : State :=
  match s.readRecord r.pool with
  | (s1, .sound p) =>
    if p.state = .opened then
      let amount := min r.amount (s1.account i).headroom
      if amount = 0 then s1
      else if p.spendable < amount then (s1.raiseAccount i Cause.refillFailed).raiseAccount r.pool Cause.poolShort
      else (s1.modifyAccount r.pool (fun p => (p.debit amount).evaluate)).modifyAccount i (Account.refilled r amount)
    else s1.raiseAccount i Cause.refillFailed
  | (s1, .damaged) => s1.raiseAccount i Cause.refillFailed
  | (s1, .free) => s1.raiseAccount i Cause.refillFailed

/-- Stage (b) (R13). -/
def State.refillStage (s : State) (i : Slot) : State :=
  if (s.account i).wantsRefill then
    match (s.account i).refill with
    | some r => s.refillAttempt i r
    | none => s
  else s

/-! Stage (c): breaking. -/

/-- Holds broken one at a time, youngest first, while the free balance is at or below the floor (R14, R81); the fuel is
the length of the list. -/
def State.breakHolds : Nat → State → Slot → State
  | 0, s, _ => s
  | n + 1, s, i =>
    if (s.account i).emptyNow then
      match (s.account i).holdList.getLast? with
      | some h => State.breakHolds n (s.freeHold i h) i
      | none => s
    else s

/-- Stage (c): HOLD_BROKEN is raised once if one or more holds are broken (R14). -/
def State.breakStage (s : State) (i : Slot) : State :=
  if (s.account i).emptyNow ∧ (s.account i).holdList ≠ [] then
    (State.breakHolds (s.account i).holdList.length s i).raiseAccount i Cause.holdBroken
  else s

/-! Stages (d) and (e), and the sequence. -/

/-- Stage (e): the event posted to every bound channel when the stored EMPTY state has changed (R16). -/
def State.postEmpty (s : State) (i : Slot) (was : Bool) : State :=
  let now := (s.account i).empty
  if now = was then s
  else if now then s.mapBound i Channel.emptyEntered
  else s.mapBound i (Channel.emptyLeft s.noticesLive)

/-- The settle sequence from stage (b) (R12). LOW is judged after stage (c): where breaking has lifted the free balance
above the low mark, no entry has happened and LOW is not raised, after a failed or unmade refill attempt as well (R15
against R114). DESIGN CHOICE, log 30, unsafe. -/
def State.settle (s : State) (i : Slot) : State :=
  let s1 := (s.refillStage i).breakStage i
  (s1.modifyAccount i Account.evaluate).postEmpty i (s1.account i).empty

/-! The charge calculation. -/

/-- The bias of a tariff entry (R34 step 2). -/
def Tariff.bias (t : Tariff) : Nat :=
  match t.mode with
  | .truncate => 0
  | .nearest => if 1 ≤ t.shift then 2 ^ (t.shift - 1) else 0

/-- The charge for a quantity (R34). -/
def Tariff.charge (t : Tariff) (q : Nat) : Nat := (q * t.rate + t.bias) / 2 ^ t.shift

/-- The tariff entry of a channel for a direction (R36). -/
def Channel.tariffFor (flow : Flow) (ch : Channel) : TariffIdx :=
  match flow with
  | .imp => ch.importTariff
  | .exp => ch.exportTariff

/-- The drawn part of an import charge taken from the hold, the account and the held total, and the hold freed and
HOLD_SPENT raised when nothing is left (R83, R84). -/
def State.drawPart (s : State) (i : Slot) (h : HoldIdx) (drawn : Nat) : State :=
  let s1 := (s.modifyAccount i (fun a => { a.debit drawn with heldTotal := a.heldTotal - drawn })).modifyHold h
    (fun e => { e with amount := e.amount - drawn })
  if (s1.hold h).amount = 0 then (s1.freeHold i h).raiseAccount i Cause.holdSpent else s1

/-- An import charge applied to the account in slot `i`: paid first from the drawing hold of channel `c`, the rest a
usage debit; with the amount applied, the drawn part and the debit together (R37, R83). -/
def State.importCharge (s : State) (c : Chan) (i : Slot) (amount : Nat) : State × Nat :=
  match s.drawnHold c with
  | some h =>
    let drawn := min amount (s.hold h).amount
    let s1 := s.drawPart i h drawn
    if amount = drawn then (s1, drawn)
    else (s1.modifyAccount i (Account.usageDebit (amount - drawn)), drawn + (s1.account i).debitApplied (amount - drawn))
  | none => (s.modifyAccount i (Account.usageDebit amount), (s.account i).debitApplied amount)

/-- A charge applied in its direction (R37). -/
def State.applyCharge (s : State) (c : Chan) (i : Slot) (flow : Flow) (amount : Nat) : State × Nat :=
  match flow with
  | .imp => s.importCharge c i amount
  | .exp => (s.modifyAccount i (Account.clampedCredit amount), (s.account i).creditApplied amount)

/-- A quantity of channel `c` priced through the channel's tariff as it now stands and charged to its account, with the
settle sequence; a charge of zero makes no movement (R36 to R38). -/
def State.chargeQuantity (s : State) (c : Chan) (flow : Flow) (q : Nat) : State × Nat :=
  let ch := s.channel c
  let amount := (s.tariff (ch.tariffFor flow)).charge q
  if amount = 0 then (s, 0)
  else
    let r := s.applyCharge c ch.slot flow amount
    (r.1.settle ch.slot, r.2)

/-- One deferred quantity of channel `c` charged and returned to zero (R39). -/
def State.chargeDeferred (s : State) (c : Chan) (flow : Flow) : State × Nat :=
  (s.modifyChannel c (Channel.setDeferred flow 0)).chargeQuantity c flow ((s.channel c).deferred flow)

/-- Both deferred quantities of channel `c` charged, import before export, with the two amounts applied (R39). -/
def State.chargeBoth (s : State) (c : Chan) : State × Nat × Nat :=
  let imp := s.chargeDeferred c .imp
  let exp := imp.1.chargeDeferred c .exp
  (exp.1, imp.2, exp.2)

end Sys2Proof.Machine
end

