-- ==== Sys2Proof/Machine/Port.lean ====
section
/-! DEFINITION. The Command Port: judging of command frames, the replay memory, the serving of a command and the readying
of its response (R163 to R170), and the checks a command makes on an account (R18, R73, R134). -/

namespace Sys2Proof.Machine

/-- What a command's block answers: the state it leaves, the status and the result bytes. -/
structure Reply where
  state : State
  status : Status
  result : List Byte
deriving DecidableEq, Repr

/-- A refusal: nothing changed, no result (R170). -/
def refuse (s : State) (st : Status) : Reply := ⟨s, st, []⟩

/-- A frame's first byte, the frame tag, and its second, the command number; 00h where no byte was received (R165). -/
def echoOf (frame : List Byte) : Byte × Byte := (frame.getD 0 0x00, frame.getD 1 0x00)

/-- A response to a frame. -/
def responseTo (frame : List Byte) (st : Status) (result : List Byte) : Response :=
  ⟨st, false, (echoOf frame).1, (echoOf frame).2, result⟩

/-- The response of a taken command is readied: the port becomes READY, and the replay memory is replaced unless the
status is STARTING (R164, R167). -/
def State.readied (s : State) (frame : List Byte) (st : Status) (result : List Byte) : State :=
  let r := responseTo frame st result
  { s with port := .ready r, replay := if st = .starting then s.replay else some ⟨frame, r⟩ }

/-- The port becomes READY with a response that no taken command earned; the replay memory stands (R165, R167). -/
def State.answered (s : State) (r : Response) : State := { s with port := .ready r }

/-- How the port judges the bytes of a COMMAND transaction (R165). -/
inductive Judgement where
  | short
  | bad
  | good (frame : List Byte)
deriving DecidableEq, Repr

/-- The judgement of the bytes after the kind byte 3Ch (R165). -/
def judge (bytes : List Byte) : Judgement :=
  let n := (bytes.getD 2 0x00).toNat
  if 3 ≤ bytes.length ∧ Config.maxArguments < n then .bad
  else if bytes.length < 4 + n then .short
  else
    let covered := bytes.take (3 + n)
    if crc8 0x00 covered = bytes.getD (3 + n) 0x00 then .good (bytes.take (4 + n)) else .bad

/-- The stored response when a good frame is a replay (R167). -/
def State.replayOf (s : State) (frame : List Byte) : Option Response :=
  match s.replay with
  | some e => if e.frame = frame then some { e.response with replayed := true } else none
  | none => none

/-- A good frame that is no replay is taken: the checks of R170 that the port answers itself, and otherwise BUSY (R166). -/
def State.takeFrame (s : State) (frame : List Byte) : State :=
  match argLength (echoOf frame).2 with
  | none => s.readied frame .unknownCommand []
  | some n =>
    if n ≠ (frame.getD 2 0x00).toNat then s.readied frame .badLength []
    else if s.phase = .starting ∧ (echoOf frame).2 ≠ 0x01 then s.readied frame .starting []
    else { s with port := .busy frame }

/-- The frame of a command in progress (R164). -/
def PortState.frame? : PortState → Option (List Byte)
  | .busy f => some f
  | .empty => none
  | .ready _ => none

/-- A COMMAND transaction while the port is served: discarded while BUSY, else judged (R165 to R167). -/
def State.commandEnds (s : State) (bytes : List Byte) : State :=
  match s.port.frame? with
  | some _ => s
  | none =>
    match judge bytes with
    | .short => s.answered (responseTo bytes .frameShort [])
    | .bad => s.answered (responseTo bytes .frameBad [])
    | .good frame =>
      match s.replayOf frame with
      | some r => s.answered r
      | none => s.takeFrame frame

/-- The block takes the command of `frame`: answered STARTING during the start check (R170), else carried out. -/
def carryOut (frame : List Byte) (served : Bool) (go : State → State) (s : State) : State :=
  if s.phase = .starting ∧ served = false then s.readied frame .starting [] else go s

/-- A row of a host command, whose frame is `frame` (log 3). While the port is BUSY with this frame, its block takes it;
while it is BUSY with another, this one's transaction is discarded (R166). Otherwise the frame arrives whole: a replay is
answered from the replay memory (R167), and any other is taken and carried out. Nothing is received without VDD (R163). -/
def serveWith (frame : List Byte) (served : Bool) (go : State → State) (s : State) : State :=
  if s.powered then
    match s.port.frame? with
    | some f => if f = frame then carryOut frame served go s else s
    | none =>
      match s.replayOf frame with
      | some r => s.answered r
      | none => carryOut frame served go { s with port := .busy frame }
  else s

/-- A command that readies a response: its block answers, and the answer is readied (R164). -/
def serve (frame : List Byte) (body : State → Reply) (s : State) : Host.Outcome State Fault Refusal :=
  .next (serveWith frame false (fun s => (body s).state.readied frame (body s).status (body s).result) s)

/-! The checks a command makes before its own (R18, R134). -/

/-- A command that accepts OPEN, FROZEN and RETIRED accounts (R18, R134). -/
def withRecord (i : Slot) (s : State) (k : Account → Reply) : Reply :=
  match s.readRecord i with
  | (s1, .free) => refuse s1 .notFound
  | (s1, .damaged) => refuse s1 .damaged
  | (_, .sound a) => k a

/-- A command that needs a live account (R18). -/
def withLive (i : Slot) (s : State) (k : Account → Reply) : Reply :=
  withRecord i s (fun a => if a.state.live then k a else refuse s .wrongState)

/-- A command that names a hold by handle and reads the record of its account (R71, R73). -/
def withHold (w : BitVec 16) (s : State) (k : HoldIdx → Account → Reply) : Reply :=
  let h := Handle.ofWord w
  if s.honoured h then withRecord (s.hold h.idx).slot s (k h.idx) else refuse s .holdGone

/-- A command that names a channel in any state. -/
def withChannel (b : Byte) (s : State) (k : Chan → Reply) : Reply :=
  match channelArg b with
  | none => refuse s .badArgument
  | some c => k c

/-- A command that needs a bound channel. -/
def withBound (b : Byte) (s : State) (k : Chan → Reply) : Reply :=
  withChannel b s (fun c => if (s.channel c).bound then k c else refuse s .wrongState)

end Sys2Proof.Machine
end

