-- ==== Sys2Proof/Machine/AccountCommands.lean ====
section
/-! DEFINITION. OPEN ACCOUNT to CLEAR STICKY: the account commands of chapter 1 (R18 to R30). -/

namespace Sys2Proof.Machine

/-- The slot under which the map holds a tag (R2, R30). -/
def State.slotOfTag (s : State) (tag : BitVec 32) : Option Slot :=
  allSlots.find? (fun i =>
    match s.pair i with
    | some p => p.tag = tag
    | none => false)

/-- The lowest-numbered FREE slot (R19). -/
def State.freeSlot (s : State) : Option Slot := allSlots.find? (fun i => (s.pair i).isNone)

/-- The last sweep number a new account takes (R19, R116). -/
def State.newAccountSweep (s : State) : Nat := if s.sweep.state = .running then s.sweep.number else 0

/-- The record of a new account (R19). -/
def Account.opening (tag : BitVec 32) (kind : Kind) (cls : Nat) (floor lowMark ceiling : Int) (lastSweep : Nat) : Account :=
  { Account.zero with
    state := .opened, tag := tag, kind := kind, cls := cls, floor := floor, lowMark := lowMark, ceiling := ceiling,
    low := decide (0 ≤ lowMark), empty := decide (0 ≤ floor), lastSweep := lastSweep }

/-- OPEN ACCOUNT at its block (R19). -/
def openAccountBody (accountTag : BitVec 32) (kind cls : Byte) (floor lowMark : BitVec 32) (ceiling : BitVec 40)
    (s : State) : Reply :=
  match kindArg kind with
  | none => refuse s .badArgument
  | some k =>
    if accountTag = 0 ∨ 15 < cls.toNat ∨ limitsValid floor.toInt lowMark.toInt ceiling.toInt = false then
      refuse s .badArgument
    else if (s.slotOfTag accountTag).isSome then refuse s .duplicateTag
    else
      match s.freeSlot with
      | none => refuse s .noSlot
      | some i =>
        let a := Account.opening accountTag k cls.toNat floor.toInt lowMark.toInt ceiling.toInt s.newAccountSweep
        ⟨(s.setPair i (some ⟨accountTag, .opened⟩)).setAccount i a, .ok, natField 1 i.val⟩

/-- OPEN ACCOUNT (R19). -/
def execOpenAccount (tag : Byte) (accountTag : BitVec 32) (kind cls : Byte) (floor lowMark : BitVec 32)
    (ceiling : BitVec 40) (s : State) : Host.Outcome State Fault Refusal :=
  serve (Instr.openAccount tag accountTag kind cls floor lowMark ceiling).frame
    (openAccountBody accountTag kind cls floor lowMark ceiling) s

/-- SET LIMITS at its block (R25). -/
def setLimitsBody (slot : Slot) (floor lowMark : BitVec 32) (ceiling : BitVec 40) (s : State) : Reply :=
  withLive slot s fun a =>
    if limitsValid floor.toInt lowMark.toInt ceiling.toInt = false ∨ ceiling.toInt < a.balance then refuse s .badArgument
    else
      let limited := s.modifyAccount slot (fun a =>
        { a with floor := floor.toInt, lowMark := lowMark.toInt, ceiling := ceiling.toInt })
      ⟨limited.settle slot, .ok, []⟩

/-- SET LIMITS (R25). -/
def execSetLimits (tag : Byte) (slot : Slot) (floor lowMark : BitVec 32) (ceiling : BitVec 40) (s : State) :
    Host.Outcome State Fault Refusal :=
  serve (Instr.setLimits tag slot floor lowMark ceiling).frame (setLimitsBody slot floor lowMark ceiling) s

/-- SET CLASS at its block (R26). -/
def setClassBody (slot : Slot) (cls : Byte) (s : State) : Reply :=
  withLive slot s fun _ =>
    if 15 < cls.toNat then refuse s .badArgument
    else ⟨s.modifyAccount slot (fun a => { a with cls := cls.toNat }), .ok, []⟩

/-- SET CLASS (R26). -/
def execSetClass (tag : Byte) (slot : Slot) (cls : Byte) (s : State) : Host.Outcome State Fault Refusal :=
  serve (Instr.setClass tag slot cls).frame (setClassBody slot cls) s

/-- An accepted ADJUST: the movement, the settle sequence, and the amount applied with the balance at the end (R24). -/
def adjusted (slot : Slot) (applied : Nat) (moved : State) : Reply :=
  let settled := moved.settle slot
  ⟨settled, .ok, natField 6 applied ++ int40Field (settled.account slot).balance⟩

/-- ADJUST at its block (R24). -/
def adjustBody (slot : Slot) (dir : Byte) (amount : BitVec 32) (force : Byte) (s : State) : Reply :=
  withLive slot s fun a =>
    let n := amount.toNat
    if n = 0 ∨ Config.maxAmount < n then refuse s .badArgument
    else
      match dirArg dir, choiceArg force with
      | some .debit, some true =>
        adjusted slot (a.debitApplied n) (s.modifyAccount slot (Account.usageDebit n))
      | some .debit, some false =>
        if a.spendable < n then refuse s .insufficient
        else adjusted slot n (s.modifyAccount slot (Account.debit n))
      | some .credit, some false =>
        if a.ceiling < a.balance + n then refuse s .overCeiling
        else adjusted slot n (s.modifyAccount slot (Account.credit n))
      | _, _ => refuse s .badArgument

/-- ADJUST (R24). -/
def execAdjust (tag : Byte) (slot : Slot) (dir : Byte) (amount : BitVec 32) (force : Byte) (s : State) :
    Host.Outcome State Fault Refusal :=
  serve (Instr.adjust tag slot dir amount force).frame (adjustBody slot dir amount force) s

/-- FREEZE at its block (R20). -/
def freezeBody (slot : Slot) (s : State) : Reply :=
  withLive slot s fun a =>
    if a.state = .opened then ⟨(s.setLife slot .frozen).mapBound slot (Channel.park true), .ok, []⟩
    else refuse s .wrongState

/-- FREEZE (R20). -/
def execFreeze (tag : Byte) (slot : Slot) (s : State) : Host.Outcome State Fault Refusal :=
  serve (Instr.freeze tag slot).frame (freezeBody slot) s

/-- The deferred quantities of channel `c` charged when it is bound to slot `i` (R21 step 2). -/
def State.chargeIfBound (i : Slot) (s : State) (c : Chan) : State :=
  if (s.channel c).boundTo i then (s.chargeBoth c).1 else s

/-- THAW at its block: the account OPEN and its channels LIVE and evaluated; the deferred quantities charged, channels
ascending; each permit evaluated once more (R21, R97). -/
def thawBody (slot : Slot) (s : State) : Reply :=
  withLive slot s fun a =>
    if a.state = .frozen then
      let opened := (s.setLife slot .opened).mapBound slot Channel.unpark
      let charged := allChannels.foldl (State.chargeIfBound slot) opened
      ⟨charged.mapBound slot Channel.evaluate, .ok, []⟩
    else refuse s .wrongState

/-- THAW (R21). -/
def execThaw (tag : Byte) (slot : Slot) (s : State) : Host.Outcome State Fault Refusal :=
  serve (Instr.thaw tag slot).frame (thawBody slot) s

/-- CLOSE at its block: the holds freed, oldest first; the specification removed; RETIRED (R22, R86). -/
def closeBody (slot : Slot) (s : State) : Reply :=
  withLive slot s fun a =>
    if 0 < a.bindingCount then refuse s .bound
    else if a.kind = .pool ∧ 0 < a.dependents then refuse s .inUse
    else
      let freed := a.holdList.foldl (fun s h => s.freeHold slot h) s
      let emptied := freed.modifyAccount slot (fun a => { a with holdList := [], heldTotal := 0 })
      ⟨(emptied.dropRefill slot).setLife slot .retired, .ok, natField 1 a.holdList.length⟩

/-- CLOSE (R22). -/
def execClose (tag : Byte) (slot : Slot) (s : State) : Host.Outcome State Fault Refusal :=
  serve (Instr.close tag slot).frame (closeBody slot) s

/-- RELEASE at its block (R23). -/
def releaseBody (slot : Slot) (s : State) : Reply :=
  withRecord slot s fun a =>
    if a.state = .retired then ⟨(s.setPair slot none).setAccount slot .zero, .ok, []⟩ else refuse s .wrongState

/-- RELEASE (R23). -/
def execRelease (tag : Byte) (slot : Slot) (s : State) : Host.Outcome State Fault Refusal :=
  serve (Instr.release tag slot).frame (releaseBody slot) s

/-- The balance reduced to the 32-bit window (R28). -/
def Account.windowBalance (a : Account) : Int := max Config.windowLow (min Config.windowHigh a.balance)

/-- The seventeen bytes of READ ACCOUNT (R28, R175). -/
def readAccountResult (a : Account) : List Byte :=
  [a.state.code, a.kind.code] ++ natField 1 a.cls ++ leBytes 4 a.tag.toNat ++ int32Field a.windowBalance
    ++ natField 1 (flagByte [a.wide, a.negative, a.low, a.empty, a.clamped, a.overrun, a.refill.isSome])
    ++ natField 1 a.holdList.length ++ natField 1 a.bindingCount
    ++ natField 1 (refillFields a.refill).1 ++ natField 1 (refillFields a.refill).2.2 ++ natField 1 a.dependents

/-- READ ACCOUNT at its block (R28). -/
def readAccountBody (slot : Slot) (s : State) : Reply :=
  withRecord slot s fun a => ⟨s, .ok, readAccountResult a⟩

/-- READ ACCOUNT (R28). -/
def execReadAccount (tag : Byte) (slot : Slot) (s : State) : Host.Outcome State Fault Refusal :=
  serve (Instr.readAccount tag slot).frame (readAccountBody slot) s

/-- The forty bytes of READ FIGURES (R29, R175). -/
def readFiguresResult (a : Account) : List Byte :=
  int40Field a.balance ++ int32Field a.floor ++ int32Field a.lowMark ++ int40Field a.ceiling ++ natField 5 a.heldTotal
    ++ natField 6 a.charged ++ natField 6 a.credited ++ natField 1 a.lastSweep ++ natField 4 (refillFields a.refill).2.1

/-- READ FIGURES at its block (R29). -/
def readFiguresBody (slot : Slot) (s : State) : Reply :=
  withRecord slot s fun a => ⟨s, .ok, readFiguresResult a⟩

/-- READ FIGURES (R29). -/
def execReadFigures (tag : Byte) (slot : Slot) (s : State) : Host.Outcome State Fault Refusal :=
  serve (Instr.readFigures tag slot).frame (readFiguresBody slot) s

/-- FIND TAG at its block: answered from the map alone (R30, R146). -/
def findTagBody (accountTag : BitVec 32) (s : State) : Reply :=
  if accountTag = 0 then refuse s .badArgument
  else
    match s.slotOfTag accountTag with
    | none => refuse s .notFound
    | some i => ⟨s, .ok, natField 1 i.val ++ [(s.mapState i).code]⟩

/-- FIND TAG (R30). -/
def execFindTag (tag : Byte) (accountTag : BitVec 32) (s : State) : Host.Outcome State Fault Refusal :=
  serve (Instr.findTag tag accountTag).frame (findTagBody accountTag) s

/-- CLEAR STICKY at its block (R27). -/
def clearStickyBody (slot : Slot) (s : State) : Reply :=
  withRecord slot s fun a =>
    ⟨s.modifyAccount slot (fun a => { a with clamped := false, overrun := false }), .ok,
      [choiceByte a.clamped, choiceByte a.overrun]⟩

/-- CLEAR STICKY (R27). -/
def execClearSticky (tag : Byte) (slot : Slot) (s : State) : Host.Outcome State Fault Refusal :=
  serve (Instr.clearSticky tag slot).frame (clearStickyBody slot) s

end Sys2Proof.Machine
end

