-- ==== Sys2Proof/Machine/ChannelCommands.lean ====
section
/-! DEFINITION. The tariff commands of chapter 2, the channel commands of chapter 3 and the permit commands of chapter 5
(R40, R42, R62 to R68, R100, R101). -/

namespace Sys2Proof.Machine

/-- The bytes of a tariff entry in a result: rate, shift, rounding mode, uses count (R40, R42). -/
def tariffResult (t : Tariff) : List Byte :=
  natField 2 t.rate ++ natField 1 t.shift ++ [t.mode.code] ++ natField 1 t.uses

/-- WRITE TARIFF at its block (R40). -/
def writeTariffBody (index : Byte) (rate : BitVec 16) (shift mode : Byte) (s : State) : Reply :=
  match tariffArg index, roundingArg mode with
  | some t, some m =>
    if 15 < shift.toNat then refuse s .badArgument
    else
      ⟨s.modifyTariff t (fun e => { e with rate := rate.toNat, shift := shift.toNat, mode := m }), .ok,
        tariffResult (s.tariff t)⟩
  | _, _ => refuse s .badArgument

/-- WRITE TARIFF (R40). -/
def execWriteTariff (tag index : Byte) (rate : BitVec 16) (shift mode : Byte) (s : State) :
    Host.Outcome State Fault Refusal :=
  serve (Instr.writeTariff tag index rate shift mode).frame (writeTariffBody index rate shift mode) s

/-- READ TARIFF at its block (R42). -/
def readTariffBody (index : Byte) (s : State) : Reply :=
  match tariffArg index with
  | some t => ⟨s, .ok, tariffResult (s.tariff t)⟩
  | none => refuse s .badArgument

/-- READ TARIFF (R42). -/
def execReadTariff (tag index : Byte) (s : State) : Host.Outcome State Fault Refusal :=
  serve (Instr.readTariff tag index).frame (readTariffBody index) s

/-- The uses counts of the distinct entries a binding names changed by a function (R32). -/
def State.changeUses (s : State) (imp exp : TariffIdx) (f : Nat → Nat) : State :=
  let s1 := s.modifyTariff imp (fun e => { e with uses := f e.uses })
  if exp = imp then s1 else s1.modifyTariff exp (fun e => { e with uses := f e.uses })

/-- A channel as BIND CHANNEL leaves it (R63): the permit evaluated with the account-empty mark loaded (R91). -/
def Channel.bind (slot : Slot) (imp exp : TariffIdx) (live empty : Bool) (ch : Channel) : Channel :=
  ({ ch with
      state := if live then .live else .parked, slot := slot, importTariff := imp, exportTariff := exp, sync := none,
      silent := false, tamper := false, silenceCounter := ch.silenceTimeout, drawing := none,
      deferredImport := 0, deferredExport := 0, cutLatch := false, hostCut := false,
      emptyMark := empty }).evaluate

/-- BIND CHANNEL at its block (R62, R63). -/
def bindChannelBody (channel : Byte) (slot : Slot) (importTariff exportTariff : Byte) (s : State) : Reply :=
  withLive slot s fun a =>
    match channelArg channel, tariffArg importTariff, tariffArg exportTariff with
    | some c, some imp, some exp =>
      if a.kind ≠ .consumer then refuse s .wrongKind
      else if (s.channel c).bound then refuse s .wrongState
      else
        ⟨((s.modifyAccount slot (fun a => { a with bindingCount := a.bindingCount + 1 })).changeUses imp exp (· + 1)).modifyChannel c
            (Channel.bind slot imp exp (a.state = .opened) a.empty), .ok, []⟩
    | _, _, _ => refuse s .badArgument

/-- BIND CHANNEL (R63). -/
def execBindChannel (tag channel : Byte) (slot : Slot) (importTariff exportTariff : Byte) (s : State) :
    Host.Outcome State Fault Refusal :=
  serve (Instr.bindChannel tag channel slot importTariff exportTariff).frame
    (bindChannelBody channel slot importTariff exportTariff) s

/-- A channel unbound, its uses counts lowered (R64 steps 3 to 5 without the binding count). -/
def State.unbindChannel (s : State) (c : Chan) : State :=
  let ch := s.channel c
  ((s.stopDrawing c).changeUses ch.importTariff ch.exportTariff (· - 1)).modifyChannel c Channel.unbind

/-- UNBIND CHANNEL at its block (R64, R65). -/
def unbindChannelBody (channel : Byte) (s : State) : Reply :=
  withBound channel s fun c =>
    let slot := (s.channel c).slot
    match s.readRecord slot with
    | (s1, .damaged) =>
      let s2 := s1.modifyChannel c Channel.withdraw
      let imp := (s2.channel c).deferredImport
      let exp := (s2.channel c).deferredExport
      let s3 := s2.unbindChannel c
      ⟨s3.modifyAccount slot (fun a => { a with bindingCount := s3.channelsBound slot }), .ok,
        natField 4 imp ++ natField 4 exp ++ [0x01]⟩
    | (s1, .free) => refuse s1 .notFound
    | (s1, .sound _) =>
      let s2 := s1.modifyChannel c Channel.withdraw
      let imp := (s2.channel c).deferredImport
      let exp := (s2.channel c).deferredExport
      let charged := s2.chargeBoth c
      let s3 := charged.1.modifyAccount slot (fun a => { a with bindingCount := a.bindingCount - 1 })
      ⟨s3.unbindChannel c, .ok,
        natField 4 imp ++ natField 6 charged.2.1 ++ natField 4 exp ++ natField 6 charged.2.2 ++ [0x00]⟩

/-- UNBIND CHANNEL (R64, R65). -/
def execUnbindChannel (tag channel : Byte) (s : State) : Host.Outcome State Fault Refusal :=
  serve (Instr.unbindChannel tag channel).frame (unbindChannelBody channel) s

/-- RESYNC CHANNEL at its block (R66). -/
def resyncChannelBody (channel : Byte) (s : State) : Reply :=
  withBound channel s fun c =>
    ⟨s.modifyChannel c (fun ch => ({ ch with sync := none, tamper := false }).reloadSilence true), .ok, []⟩

/-- RESYNC CHANNEL (R66). -/
def execResyncChannel (tag channel : Byte) (s : State) : Host.Outcome State Fault Refusal :=
  serve (Instr.resyncChannel tag channel).frame (resyncChannelBody channel) s

/-- The value of an optional handle in a result, 0 when absent (R176). -/
def handleValue : Option Handle → Nat
  | some h => h.value
  | none => 0

/-- The twenty-seven bytes of READ CHANNEL (R67, R176). -/
def readChannelResult (ch : Channel) : List Byte :=
  [ch.state.code] ++ natField 1 ch.slot.val ++ natField 1 ch.importTariff.val ++ natField 1 ch.exportTariff.val
    ++ [syncByte ch.sync] ++ natField 4 ch.deferredImport ++ natField 4 ch.deferredExport
    ++ natField 2 (handleValue ch.drawing) ++ natField 1 ch.grace ++ natField 1 ch.silenceTimeout
    ++ natField 1 ch.silenceCounter
    ++ natField 1 (flagByte [ch.drawing.isSome, ch.autoRestore, ch.silentCut, ch.silent, ch.tamper, ch.cutLatch, ch.hostCut])
    ++ natField 2 ch.framesTaken.toNat ++ natField 1 ch.badFrames ++ natField 1 ch.duplicates ++ natField 1 ch.missed
    ++ natField 1 ch.stray ++ [ch.permit.code] ++ natField 1 ch.graceRemaining

/-- The five counters returned to zero (R67). -/
def Channel.clearCounters (ch : Channel) : Channel :=
  { ch with framesTaken := 0, badFrames := 0, duplicates := 0, missed := 0, stray := 0 }

/-- READ CHANNEL at its block (R67). -/
def readChannelBody (channel clear : Byte) (s : State) : Reply :=
  withChannel channel s fun c =>
    match choiceArg clear with
    | none => refuse s .badArgument
    | some true => ⟨s.modifyChannel c Channel.clearCounters, .ok, readChannelResult (s.channel c)⟩
    | some false => ⟨s, .ok, readChannelResult (s.channel c)⟩

/-- READ CHANNEL (R67). -/
def execReadChannel (tag channel clear : Byte) (s : State) : Host.Outcome State Fault Refusal :=
  serve (Instr.readChannel tag channel clear).frame (readChannelBody channel clear) s

/-- A channel as SET CHANNEL OPTIONS leaves it (R68). -/
def Channel.withOptions (grace timeout : Nat) (auto cut : Bool) (ch : Channel) : Channel :=
  let changed := { ch with
    grace := grace, silenceTimeout := timeout, autoRestore := auto, silentCut := cut,
    silenceCounter := if ch.bound then timeout else ch.silenceCounter }
  if ch.silentCut = cut then changed else changed.notify true

/-- SET CHANNEL OPTIONS at its block (R68). -/
def setChannelOptionsBody (channel grace silenceTimeout autoRestore silentCut : Byte) (s : State) : Reply :=
  withChannel channel s fun c =>
    match choiceArg autoRestore, choiceArg silentCut with
    | some auto, some cut =>
      let ch := s.channel c
      ⟨s.modifyChannel c (Channel.withOptions grace.toNat silenceTimeout.toNat auto cut), .ok,
        natField 1 ch.grace ++ natField 1 ch.silenceTimeout ++ [choiceByte ch.autoRestore, choiceByte ch.silentCut]⟩
    | _, _ => refuse s .badArgument

/-- SET CHANNEL OPTIONS (R68). -/
def execSetChannelOptions (tag channel grace silenceTimeout autoRestore silentCut : Byte) (s : State) :
    Host.Outcome State Fault Refusal :=
  serve (Instr.setChannelOptions tag channel grace silenceTimeout autoRestore silentCut).frame
    (setChannelOptionsBody channel grace silenceTimeout autoRestore silentCut) s

/-- RESTORE PERMIT at its block (R101). -/
def restorePermitBody (channel : Byte) (s : State) : Reply :=
  withBound channel s fun c =>
    let ch := s.channel c
    let restored := ({ ch with cutLatch := false, hostCut := false }).evaluate
    ⟨s.setChannel c restored, .ok,
      [restored.permit.code, choiceByte ch.cutLatch, choiceByte ch.hostCut, choiceByte restored.emptyMark]⟩

/-- RESTORE PERMIT (R101). -/
def execRestorePermit (tag channel : Byte) (s : State) : Host.Outcome State Fault Refusal :=
  serve (Instr.restorePermit tag channel).frame (restorePermitBody channel) s

/-- CUT PERMIT at its block (R100). -/
def cutPermitBody (channel : Byte) (s : State) : Reply :=
  withBound channel s fun c =>
    ⟨s.modifyChannel c (fun ch => { ch.permitOff with hostCut := true }), .ok, [(s.channel c).permit.code]⟩

/-- CUT PERMIT (R100). -/
def execCutPermit (tag channel : Byte) (s : State) : Host.Outcome State Fault Refusal :=
  serve (Instr.cutPermit tag channel).frame (cutPermitBody channel) s

end Sys2Proof.Machine
end

