-- ==== Sys2Proof/Machine/HoldCommands.lean ====
section
/-! DEFINITION. The hold commands of chapter 4 (R73 to R89) and the refill commands of chapter 6 (R105 to R107). -/

namespace Sys2Proof.Machine

/-- The lowest-numbered FREE hold entry (R75). -/
def State.freeHoldEntry (s : State) : Option HoldIdx := allHolds.find? (fun h => !(s.hold h).held)

/-- A placed hold, before the settle sequence: the entry HELD, its index the youngest of the list, the held total raised
(R75 steps 1 and 2). -/
def State.placed (s : State) (i : Slot) (h : HoldIdx) (amount lifetime : Nat) : State :=
  (s.modifyHold h (fun e => ⟨true, e.generation, i, amount, lifetime, false, none⟩)).modifyAccount i (fun a =>
    { a with holdList := a.holdList ++ [h], heldTotal := a.heldTotal + amount })

/-- PLACE HOLD at its block (R74, R75). -/
def placeHoldBody (slot : Slot) (amount : BitVec 32) (lifetime : BitVec 16) (s : State) : Reply :=
  withLive slot s fun a =>
    let n := amount.toNat
    if a.state = .frozen then refuse s .wrongState
    else if n = 0 ∨ Config.maxAmount < n then refuse s .badArgument
    else if a.kind ≠ .consumer then refuse s .wrongKind
    else if a.spendable < n then refuse s .insufficient
    else if Config.maxHolds ≤ a.holdList.length then refuse s .accountHoldsFull
    else
      match s.freeHoldEntry with
      | none => refuse s .holdsFull
      | some h =>
        let handle := s.handleOf h
        let settled := (s.placed slot h n lifetime.toNat).settle slot
        ⟨settled, .ok, natField 2 handle.value ++ [if settled.honoured handle then 0x00 else 0x01]⟩

/-- PLACE HOLD (R75). -/
def execPlaceHold (tag : Byte) (slot : Slot) (amount : BitVec 32) (lifetime : BitVec 16) (s : State) :
    Host.Outcome State Fault Refusal :=
  serve (Instr.placeHold tag slot amount lifetime).frame (placeHoldBody slot amount lifetime) s

/-- CAPTURE HOLD at its block (R76). -/
def captureHoldBody (handle : BitVec 16) (amount : BitVec 32) (s : State) : Reply :=
  withHold handle s fun h _ =>
    let e := s.hold h
    let n := amount.toNat
    if Config.maxAmount < n ∨ e.amount < n then refuse s .badArgument
    else
      let moved := if n = 0 then s else s.modifyAccount e.slot (Account.usageDebit n)
      let settled := (moved.freeHold e.slot h).settle e.slot
      ⟨settled, .ok, natField 4 n ++ natField 4 (e.amount - n) ++ int40Field (settled.account e.slot).balance⟩

/-- CAPTURE HOLD (R76). -/
def execCaptureHold (tag : Byte) (handle : BitVec 16) (amount : BitVec 32) (s : State) :
    Host.Outcome State Fault Refusal :=
  serve (Instr.captureHold tag handle amount).frame (captureHoldBody handle amount) s

/-- RELEASE HOLD at its block (R77). -/
def releaseHoldBody (handle : BitVec 16) (s : State) : Reply :=
  withHold handle s fun h _ =>
    let e := s.hold h
    ⟨(s.freeHold e.slot h).settle e.slot, .ok, natField 4 e.amount⟩

/-- RELEASE HOLD (R77). -/
def execReleaseHold (tag : Byte) (handle : BitVec 16) (s : State) : Host.Outcome State Fault Refusal :=
  serve (Instr.releaseHold tag handle).frame (releaseHoldBody handle) s

/-- The drawn-by channel in a result, 0 when no channel draws (R88). -/
def drawnByValue : Option Chan → Nat
  | some c => c.val
  | none => 0

/-- The bytes of READ HOLD (R88). -/
def readHoldResult (e : Hold) : List Byte :=
  natField 1 e.slot.val ++ natField 4 e.amount ++ natField 2 e.lifetime
    ++ [choiceByte e.expiryDue, choiceByte e.drawnBy.isSome] ++ natField 1 (drawnByValue e.drawnBy)

/-- READ HOLD at its block: reads no account record (R88). -/
def readHoldBody (handle : BitVec 16) (s : State) : Reply :=
  let h := Handle.ofWord handle
  if s.honoured h then ⟨s, .ok, readHoldResult (s.hold h.idx)⟩ else refuse s .holdGone

/-- READ HOLD (R88). -/
def execReadHold (tag : Byte) (handle : BitVec 16) (s : State) : Host.Outcome State Fault Refusal :=
  serve (Instr.readHold tag handle).frame (readHoldBody handle) s

/-- The handle and amount of each hold of a list, oldest first (R89). -/
def State.holdListBytes (s : State) (l : List HoldIdx) : List Byte :=
  (l.map (fun h => natField 2 (s.handleOf h).value ++ natField 4 (s.hold h).amount)).flatten

/-- LIST HOLDS at its block (R89). -/
def listHoldsBody (slot : Slot) (s : State) : Reply :=
  withRecord slot s fun a => ⟨s, .ok, natField 1 a.holdList.length ++ s.holdListBytes a.holdList⟩

/-- LIST HOLDS (R89). -/
def execListHolds (tag : Byte) (slot : Slot) (s : State) : Host.Outcome State Fault Refusal :=
  serve (Instr.listHolds tag slot).frame (listHoldsBody slot) s

/-- A channel told to draw on a hold, and the hold's drawn-by field set (R82). -/
def State.startDrawing (s : State) (c : Chan) (h : Handle) : State :=
  (s.modifyChannel c (fun ch => { ch with drawing := some h })).modifyHold h.idx (fun e => { e with drawnBy := some c })

/-- DRAW HOLD at its block (R82). -/
def drawHoldBody (channel : Byte) (handle : BitVec 16) (s : State) : Reply :=
  withHold handle s fun h _ =>
    match channelArg channel with
    | none => refuse s .badArgument
    | some c =>
      if (s.channel c).boundTo (s.hold h).slot = false then refuse s .badArgument
      else if (s.channel c).drawing.isSome then refuse s .wrongState
      else if (s.hold h).drawnBy.isSome then refuse s .inUse
      else ⟨s.startDrawing c (Handle.ofWord handle), .ok, []⟩

/-- DRAW HOLD (R82). -/
def execDrawHold (tag channel : Byte) (handle : BitVec 16) (s : State) : Host.Outcome State Fault Refusal :=
  serve (Instr.drawHold tag channel handle).frame (drawHoldBody channel handle) s

/-- END DRAW at its block: reads no account record (R85). -/
def endDrawBody (channel : Byte) (s : State) : Reply :=
  withChannel channel s fun c =>
    match (s.channel c).drawing with
    | none => refuse s .wrongState
    | some h => ⟨s.stopDrawing c, .ok, natField 2 h.value⟩

/-- END DRAW (R85). -/
def execEndDraw (tag channel : Byte) (s : State) : Host.Outcome State Fault Refusal :=
  serve (Instr.endDraw tag channel).frame (endDrawBody channel) s

/-- SET REFILL accepted (R106): the old specification removed, the new one set, the new pool's dependents raised. -/
def State.setRefill (s : State) (i : Slot) (r : RefillSpec) : State :=
  ((s.dropRefill i).modifyAccount i (fun a => { a with refill := some r })).modifyAccount r.pool (fun a =>
    { a with dependents := a.dependents + 1 })

/-- SET REFILL at its block (R105, R106). -/
def setRefillBody (slot pool : Slot) (amount : BitVec 32) (count : Byte) (s : State) : Reply :=
  withLive slot s fun a =>
    let n := amount.toNat
    if n = 0 ∨ Config.maxAmount < n then refuse s .badArgument
    else if a.kind ≠ .consumer then refuse s .wrongKind
    else
      withRecord pool s fun p =>
        if p.kind ≠ .pool then refuse s .wrongKind
        else if p.state.live = false then refuse s .wrongState
        else
          let done := s.setRefill slot ⟨pool, n, count.toNat⟩
          ⟨done, .ok, refillResult a.refill ++ natField 1 (done.account pool).dependents⟩

/-- SET REFILL (R106). -/
def execSetRefill (tag : Byte) (slot pool : Slot) (amount : BitVec 32) (count : Byte) (s : State) :
    Host.Outcome State Fault Refusal :=
  serve (Instr.setRefill tag slot pool amount count).frame (setRefillBody slot pool amount count) s

/-- CLEAR REFILL at its block (R107). -/
def clearRefillBody (slot : Slot) (s : State) : Reply :=
  withLive slot s fun a =>
    if a.kind ≠ .consumer then refuse s .wrongKind
    else
      match a.refill with
      | none => refuse s .wrongState
      | some r => ⟨s.dropRefill slot, .ok, refillResult (some r)⟩

/-- CLEAR REFILL (R107). -/
def execClearRefill (tag : Byte) (slot : Slot) (s : State) : Host.Outcome State Fault Refusal :=
  serve (Instr.clearRefill tag slot).frame (clearRefillBody slot) s

end Sys2Proof.Machine
end

