-- ==== Sys2Proof/Machine/IntegrityCommands.lean ====
section
/-! DEFINITION. REBUILD ACCOUNT, DISCARD ACCOUNT and NEXT DAMAGED (R150 to R152). -/

namespace Sys2Proof.Machine

/-- The kind a rebuilt record takes (R151). -/
def rebuiltKind (bound naming : Nat) (asRead : Kind) : Kind :=
  if 0 < bound then .consumer
  else if 0 < naming then .pool
  else
    match asRead with
    | .consumer => .consumer
    | .pool => .pool
    | .corrupt => .consumer

/-- The specification a rebuilt record keeps; a specification not kept lowers the dependents of the pool it named. The
record's own specification has been taken out of `s`, so that it is not counted (R108, R151). -/
def State.rebuiltRefill (s : State) (i : Slot) (kind : Kind) (asRead : Option RefillSpec) : State × Option RefillSpec :=
  match asRead with
  | none => (s, none)
  | some r =>
    if r.pool = i then (s, none)
    else
      let read := s.readPool r.pool
      if read.2 then
        if kind = .consumer ∧ 1 ≤ r.amount ∧ r.amount ≤ Config.maxAmount then (read.1, some r)
        else (read.1.lowerDependents r.pool, none)
      else (read.1, none)

/-- The rebuilt record (R151). -/
def Account.rebuilt (tag : BitVec 32) (kind : Kind) (balance floor lowMark ceiling : Int)
    (charged credited lastSweep bound naming : Nat) (refill : Option RefillSpec) (a : Account) : Account :=
  let fresh : Account :=
    { Account.zero with
      state := .frozen, tag := tag, kind := kind, cls := if 15 < a.cls then 0 else a.cls,
      balance := balance, floor := floor, lowMark := lowMark, ceiling := ceiling, bindingCount := bound,
      refill := refill, dependents := if kind = .pool then naming else 0,
      charged := charged, credited := credited, lastSweep := lastSweep }
  { fresh with low := fresh.lowNow, empty := fresh.emptyNow }

/-- The tag of a slot's pair. -/
def State.mapTag (s : State) (i : Slot) : BitVec 32 :=
  match s.pair i with
  | some p => p.tag
  | none => 0

/-- REBUILD ACCOUNT at its block (R151). -/
def rebuildAccountBody (slot : Slot) (balance : BitVec 40) (floor lowMark : BitVec 32) (ceiling : BitVec 40)
    (charged credited : BitVec 48) (lastSweep : Byte) (s : State) : Reply :=
  if s.mapState slot = .free then refuse s .notFound
  else if s.mapState slot ≠ .damaged then refuse s .wrongState
  else if limitsValid floor.toInt lowMark.toInt ceiling.toInt = false ∨ ceiling.toInt < balance.toInt then
    refuse s .badArgument
  else
    let a := s.account slot
    let bare := s.modifyAccount slot (fun a => { a with refill := none })
    let bound := s.channelsBound slot
    let naming := bare.specsNaming slot
    let kind := rebuiltKind bound naming a.kind
    let kept := bare.rebuiltRefill slot kind a.refill
    let fresh := Account.rebuilt (s.mapTag slot) kind balance.toInt floor.toInt lowMark.toInt ceiling.toInt
      charged.toNat credited.toNat lastSweep.toNat bound naming kept.2 a
    let written := (kept.1.setLife slot .frozen).setAccount slot fresh
    ⟨written.mapBound slot (fun ch => { ch with emptyMark := fresh.empty }), .ok,
      [kind.code] ++ natField 1 fresh.bindingCount ++ natField 1 fresh.dependents
        ++ [choiceByte fresh.refill.isSome, choiceByte fresh.low, choiceByte fresh.empty]⟩

/-- REBUILD ACCOUNT (R151). -/
def execRebuildAccount (tag : Byte) (slot : Slot) (balance : BitVec 40) (floor lowMark : BitVec 32)
    (ceiling : BitVec 40) (charged credited : BitVec 48) (lastSweep : Byte) (s : State) :
    Host.Outcome State Fault Refusal :=
  serve (Instr.rebuildAccount tag slot balance floor lowMark ceiling charged credited lastSweep).frame
    (rebuildAccountBody slot balance floor lowMark ceiling charged credited lastSweep) s

/-- The channels bound to a slot, ascending. -/
def State.boundChannels (s : State) (i : Slot) : List Chan := allChannels.filter (fun c => (s.channel c).boundTo i)

/-- What DISCARD ACCOUNT notes of a channel it unbinds: its number and the two discarded quantities (R152). -/
def discardNote (c : Chan) (ch : Channel) : List Byte :=
  natField 1 c.val ++ natField 4 ch.withdraw.deferredImport ++ natField 4 ch.withdraw.deferredExport

/-- Step 1 of DISCARD ACCOUNT for one channel (R152). -/
def State.discardChannel (s : State) (c : Chan) : State := (s.modifyChannel c Channel.withdraw).unbindChannel c

/-- Step 2 of DISCARD ACCOUNT: the dependents of the pool that the record's specification names lowered (R108, R152). -/
def State.discardOwnRefill (s : State) (i : Slot) : State :=
  match (s.account i).refill with
  | none => s
  | some r =>
    let read := (s.modifyAccount i (fun a => { a with refill := none })).readPool r.pool
    if read.2 then read.1.lowerDependents r.pool else read.1

/-- The slots, other than `i`, whose records carry a specification that names slot `i`, by their fields as they stand: a
record is verified only when its specification is removed (R152). DESIGN CHOICE, log 31, unsafe. -/
def State.consumersOf (s : State) (i : Slot) : List Slot :=
  allSlots.filter (fun j => j ≠ i && s.mapState j ≠ .free && (s.account j).namesPool i)

/-- Step 3 of DISCARD ACCOUNT for one consumer: its specification removed, REFILL_FAILED raised on a sound one (R152). -/
def State.removeNaming (s : State) (j : Slot) : State :=
  match s.readRecord j with
  | (s1, .sound _) => (s1.modifyAccount j (fun a => { a with refill := none })).raiseAccount j Cause.refillFailed
  | (s1, .damaged) => s1.modifyAccount j (fun a => { a with refill := none })
  | (s1, .free) => s1

/-- DISCARD ACCOUNT at its block (R152). -/
def discardAccountBody (slot : Slot) (s : State) : Reply :=
  if s.mapState slot = .free then refuse s .notFound
  else if s.mapState slot ≠ .damaged then refuse s .wrongState
  else
    let chans := s.boundChannels slot
    let s1 := chans.foldl State.discardChannel s
    let s2 := s1.discardOwnRefill slot
    let consumers := s2.consumersOf slot
    let s3 := consumers.foldl State.removeNaming s2
    ⟨(s3.setPair slot none).setAccount slot .zero, .ok,
      natField 1 chans.length ++ (chans.map (fun c => discardNote c (s.channel c))).flatten
        ++ natField 1 consumers.length⟩

/-- DISCARD ACCOUNT (R152). -/
def execDiscardAccount (tag : Byte) (slot : Slot) (s : State) : Host.Outcome State Fault Refusal :=
  serve (Instr.discardAccount tag slot).frame (discardAccountBody slot) s

/-- The lowest slot at or above a slot whose state in the map is DAMAGED (R150). -/
def State.nextDamagedFrom (s : State) (i : Slot) : Option Slot :=
  allSlots.find? (fun j => decide (i.val ≤ j.val) && s.mapState j = .damaged)

/-- NEXT DAMAGED at its block (R150). -/
def nextDamagedBody (slot : Slot) (s : State) : Reply :=
  match s.nextDamagedFrom slot with
  | none => refuse s .notFound
  | some j => ⟨s, .ok, natField 1 j.val ++ natField 4 (s.mapTag j).toNat⟩

/-- NEXT DAMAGED (R150). -/
def execNextDamaged (tag : Byte) (slot : Slot) (s : State) : Host.Outcome State Fault Refusal :=
  serve (Instr.nextDamaged tag slot).frame (nextDamagedBody slot) s

end Sys2Proof.Machine
end

