-- ==== Sys2Proof/Machine/MeterEvents.lean ====
section
/-! DEFINITION. The report lines (R44 to R54) and the taking of usage-charge requests (R55 to R57). -/

namespace Sys2Proof.Machine

/-- Whether a complete frame on a line is accepted (R46, R174). -/
def frameAccepted (line : Chan) (lineSeq q0 q1 q2 flags check : Byte) : Bool :=
  crc8 0xFF [lineSeq, q0, q1, q2, flags] = check && lineSeq.toNat / 16 = line.val && flags &&& 0xFC#8 == 0

/-- The sequence number of a frame: bits 3 to 0 (R174). -/
def frameSeq (lineSeq : Byte) : Fin 16 := Fin.ofNat 16 lineSeq.toNat

/-- The direction of a frame: bit 0 of the flags (R174). -/
def frameFlow (flags : Byte) : Flow := if flags.getLsbD 0 then .exp else .imp

/-- The TAMPER indication of a frame: bit 1 of the flags (R174). -/
def frameTamper (flags : Byte) : Bool := flags.getLsbD 1

/-- An accepted frame on an UNBOUND channel (R51). -/
def Channel.strayFrame (ch : Channel) : Channel :=
  ({ ch with stray := satCount ch.stray 1 }).raise Cause.stray

/-- A duplicate (R53). -/
def Channel.duplicateFrame (live : Bool) (ch : Channel) : Channel :=
  (({ ch with duplicates := satCount ch.duplicates 1 }).raise Cause.duplicate).reloadSilence live

/-- A frame that is taken: the four steps of R54. -/
def Channel.takeReport (live : Bool) (seq : Fin 16) (flow : Flow) (q : Nat) (tamper : Bool) (ch : Channel) : Channel :=
  let counted := { ch with sync := some seq, framesTaken := ch.framesTaken + 1 }
  let reloaded := counted.reloadSilence live
  let latched := if tamper then ({ reloaded with tamper := true }).raise Cause.tamper else reloaded
  if ch.state = .live then { latched with requests := latched.requests ++ [⟨flow, q⟩] } else latched.defer flow q

/-- Sequence numbers skipped before a taken frame at distance `d` (R52). -/
def Channel.countGap (d : Fin 16) (ch : Channel) : Channel :=
  if 2 ≤ d.val then ({ ch with missed := satCount ch.missed (d.val - 1) }).raise Cause.gap else ch

/-- An accepted frame handed to its channel: a stray, a duplicate or a taken report (R51 to R54). -/
def Channel.acceptFrame (live : Bool) (seq : Fin 16) (flow : Flow) (q : Nat) (tamper : Bool) (ch : Channel) : Channel :=
  if ch.state = .unbound then ch.strayFrame
  else
    match ch.sync with
    | none => ch.takeReport live seq flow q tamper
    | some last =>
      if seq - last = 0 then ch.duplicateFrame live
      else (ch.countGap (seq - last)).takeReport live seq flow q tamper

/-- REPORT_FRAME: the check byte of a frame on a line has arrived; the frame is judged and the receiver hunts (R45, R46).
The receiver samples its line in RUN and STARTING alone (R44). -/
def execReportFrame (line : Chan) (lineSeq q0 q1 q2 flags check : Byte) (s : State) : Host.Outcome State Fault Refusal :=
  .next
    (if s.powered then
      if frameAccepted line lineSeq q0 q1 q2 flags check then
        s.modifyChannel line (fun ch => { ch with receiver := .hunting }.acceptFrame s.noticesLive (frameSeq lineSeq)
          (frameFlow flags) (leValue [q0, q1, q2]) (frameTamper flags))
      else s.modifyChannel line Channel.badFrame
    else s)

/-- Assembly abandoned: the frame is a bad frame; a receiver that hunts has none to abandon (R45). -/
def State.abandonFrame (s : State) (line : Chan) : State :=
  if s.powered ∧ (s.channel line).receiver = .assembling then s.modifyChannel line Channel.badFrame else s

/-- FRAME_GAP_TIMEOUT (R45). -/
def execFrameGapTimeout (line : Chan) (s : State) : Host.Outcome State Fault Refusal := .next (s.abandonFrame line)

/-- FRAMING_MARK_ABANDON (R45). -/
def execFramingMarkAbandon (line : Chan) (s : State) : Host.Outcome State Fault Refusal := .next (s.abandonFrame line)

/-- FRAME_SYNC: a hunting receiver begins assembling; inside a frame A5h is an ordinary byte (R45). -/
def execFrameSync (line : Chan) (s : State) : Host.Outcome State Fault Refusal :=
  .next (if s.powered then s.modifyChannel line (fun ch => { ch with receiver := .assembling }) else s)

/-- The account of a taken request cannot be charged: the quantity deferred, and the channel of a DAMAGED account PARKED
(R55, R57). -/
def State.deferRequest (s : State) (c : Chan) (r : UsageRequest) (park : Bool) : State :=
  s.modifyChannel c (fun ch => (if park then ch.park s.noticesLive else ch).defer r.flow r.quantity)

/-- The Account Table takes a usage-charge request on the state it finds (R55). -/
def State.takeRequest (s : State) (c : Chan) (r : UsageRequest) : State :=
  match s.readRecord (s.channel c).slot with
  | (s1, .sound a) => if a.state = .opened then (s1.chargeQuantity c r.flow r.quantity).1 else s1.deferRequest c r false
  | (s1, .damaged) => s1.deferRequest c r true
  | (s1, .free) => s1.deferRequest c r false

/-- USAGE_CHARGE: the oldest untaken request of the channel is taken (R55); requests are taken in RUN (R155). -/
def execUsageCharge (channel : Chan) (s : State) : Host.Outcome State Fault Refusal :=
  .next
    (match (s.channel channel).requests with
    | [] => s
    | r :: rest =>
      if s.phase = .run ∧ (s.channel channel).bound then
        (s.modifyChannel channel (fun ch => { ch with requests := rest })).takeRequest channel r
      else s)

end Sys2Proof.Machine
end

