-- ==== Sys2Proof/Machine/NoticeCommands.lean ====
section
/-! DEFINITION. The notice commands of chapter 8 (R134 to R144). -/

namespace Sys2Proof.Machine

/-- The checks of a notice command on the source it names: an account source is read and verified (R134). -/
def withSource (src : Source) (s : State) (k : Reply) : Reply :=
  match src with
  | .account i => withRecord i s (fun _ => k)
  | .device => k
  | .channel _ => k
  | .fault => k

/-- SET NOTICE on a source other than the fault source, after the checks of R134 (R139). -/
def setNoticeOn (src : Source) (level group : Byte) (mask : BitVec 16) (enable : Byte) (s : State) : Reply :=
  match choiceArg enable with
  | none => refuse s .badArgument
  | some on =>
    if 15 < level.toNat ∨ 3 < group.toNat ∨ src.accepts mask = false then refuse s .badArgument
    else
      let n := s.noticeOf src
      ⟨s.setNoticeOf src { n with level := Fin.ofNat 16 level.toNat, group := Fin.ofNat 4 group.toNat, mask := mask, enable := on },
        .ok, natField 1 n.level.val ++ natField 1 n.group.val ++ natField 2 n.mask.toNat ++ [choiceByte n.enable]⟩

/-- SET NOTICE at its block (R139). -/
def setNoticeBody (source : BitVec 16) (level group : Byte) (mask : BitVec 16) (enable : Byte) (s : State) : Reply :=
  match Source.ofNumber source with
  | none => refuse s .badArgument
  | some .fault => refuse s .badArgument
  | some src => withSource src s (setNoticeOn src level group mask enable s)

/-- SET NOTICE (R139). -/
def execSetNotice (tag : Byte) (source : BitVec 16) (level group : Byte) (mask : BitVec 16) (enable : Byte) (s : State) :
    Host.Outcome State Fault Refusal :=
  serve (Instr.setNotice tag source level group mask enable).frame (setNoticeBody source level group mask enable) s

/-- NOTICES ON and NOTICES OFF at their block (R141). -/
def setEnableBody (on : Bool) (s : State) : Reply :=
  ⟨{ s with globalEnable := on }, .ok, [choiceByte s.globalEnable]⟩

/-- NOTICES ON (R141). -/
def execNoticesOn (tag : Byte) (s : State) : Host.Outcome State Fault Refusal :=
  serve (Instr.noticesOn tag).frame (setEnableBody true) s

/-- NOTICES OFF (R141). -/
def execNoticesOff (tag : Byte) (s : State) : Host.Outcome State Fault Refusal :=
  serve (Instr.noticesOff tag).frame (setEnableBody false) s

/-- The seven bytes of TAKE NOTICE (R176). -/
def takeNoticeResult (src : Source) (level : Nat) (causes : BitVec 16) (damagedCount depth : Nat) : List Byte :=
  natField 2 src.number ++ natField 1 level ++ natField 2 causes.toNat ++ natField 1 damagedCount ++ natField 1 depth

/-- The fault source handed over (R135). -/
def handOverFaults (s : State) : Reply :=
  ⟨{ s with faults := .zero, stack := ⟨Config.faultLevel, .fault⟩ :: s.stack }, .ok,
    takeNoticeResult .fault Config.faultLevel s.faults.pending s.faults.damagedCount (s.stack.length + 1)⟩

/-- A winner handed over: its taken causes removed from its pending set, its level and number pushed (R136). -/
def handOverSource (src : Source) (s : State) : Reply :=
  let n := s.noticeOf src
  let taken := n.pending &&& n.mask
  ⟨{ s.setNoticeOf src { n with pending := n.pending &&& ~~~taken } with
      stack := ⟨n.level.val, src⟩ :: s.stack }, .ok,
    takeNoticeResult src n.level.val taken 0 (s.stack.length + 1)⟩

/-- TAKE NOTICE at its block (R135, R136). -/
def takeNoticeBody (s : State) : Reply :=
  if s.faults.pending ≠ 0 ∧ s.currentLevel < Config.faultLevel then handOverFaults s
  else
    match s.winner with
    | none => refuse s .nothingPending
    | some w =>
      if (s.noticeOf w).level.val ≤ s.currentLevel then refuse s .nothingPending
      else
        match w with
        | .account i =>
          match s.readRecord i with
          | (_, .sound _) => handOverSource w s
          | (s1, .damaged) => handOverFaults s1
          | (s1, .free) => refuse s1 .nothingPending
        | .device => handOverSource w s
        | .channel _ => handOverSource w s
        | .fault => refuse s .nothingPending

/-- TAKE NOTICE (R136). -/
def execTakeNotice (tag : Byte) (s : State) : Host.Outcome State Fault Refusal :=
  serve (Instr.takeNotice tag).frame takeNoticeBody s

/-- END NOTICE at its block (R138). -/
def endNoticeBody (s : State) : Reply :=
  match s.stack with
  | [] => refuse s .stackEmpty
  | e :: rest =>
    ⟨{ s with stack := rest }, .ok, natField 1 e.level ++ natField 2 e.source.number ++ natField 1 rest.length⟩

/-- END NOTICE (R138). -/
def execEndNotice (tag : Byte) (s : State) : Host.Outcome State Fault Refusal :=
  serve (Instr.endNotice tag).frame endNoticeBody s

/-- The bytes of READ PENDING for a source other than the fault source (R142). -/
def readPendingResult (src : Source) (s : State) : List Byte :=
  let n := s.noticeOf src
  natField 1 n.level.val ++ natField 1 n.group.val ++ natField 2 n.mask.toNat ++ [choiceByte n.enable]
    ++ natField 2 n.pending.toNat ++ [choiceByte (s.requesting src), choiceByte (s.winner = some src)]

/-- READ PENDING at its block (R142). -/
def readPendingBody (source : BitVec 16) (s : State) : Reply :=
  match Source.ofNumber source with
  | none => refuse s .badArgument
  | some .fault => ⟨s, .ok, natField 2 s.faults.pending.toNat ++ natField 1 s.faults.damagedCount⟩
  | some src => withSource src s ⟨s, .ok, readPendingResult src s⟩

/-- READ PENDING (R142). -/
def execReadPending (tag : Byte) (source : BitVec 16) (s : State) : Host.Outcome State Fault Refusal :=
  serve (Instr.readPending tag source).frame (readPendingBody source) s

/-- CLEAR CAUSES on the fault source; the count before is carried when RECORD_DAMAGED is removed (R143, log 16). -/
def clearFaults (causes : BitVec 16) (s : State) : Reply :=
  let after := s.faults.pending &&& ~~~causes
  let removed := s.faults.pending &&& causes &&& Cause.recordDamaged ≠ 0
  ⟨{ s with faults := ⟨after, if removed then 0 else s.faults.damagedCount⟩ }, .ok,
    natField 2 s.faults.pending.toNat ++ natField 2 after.toNat
      ++ (if removed then natField 1 s.faults.damagedCount else [])⟩

/-- CLEAR CAUSES on a source other than the fault source (R143). -/
def clearSource (src : Source) (causes : BitVec 16) (s : State) : Reply :=
  let n := s.noticeOf src
  let after := n.pending &&& ~~~causes
  ⟨s.setNoticeOf src { n with pending := after }, .ok, natField 2 n.pending.toNat ++ natField 2 after.toNat⟩

/-- CLEAR CAUSES at its block (R143). -/
def clearCausesBody (source causes : BitVec 16) (s : State) : Reply :=
  match Source.ofNumber source with
  | none => refuse s .badArgument
  | some src =>
    withSource src s
      (if src.accepts causes = false then refuse s .badArgument
       else
         match src with
         | .fault => clearFaults causes s
         | .device => clearSource src causes s
         | .channel _ => clearSource src causes s
         | .account _ => clearSource src causes s)

/-- CLEAR CAUSES (R143). -/
def execClearCauses (tag : Byte) (source causes : BitVec 16) (s : State) : Host.Outcome State Fault Refusal :=
  serve (Instr.clearCauses tag source causes).frame (clearCausesBody source causes) s

/-- The bytes of READ STACK, entries from bottom to top (R144). -/
def readStackResult (s : State) : List Byte :=
  natField 1 s.stack.length
    ++ (s.stack.reverse.map (fun e => natField 1 e.level ++ natField 2 e.source.number)).flatten
    ++ [choiceByte s.globalEnable, choiceByte (s.faults.pending ≠ 0)]

/-- READ STACK at its block (R144). -/
def readStackBody (s : State) : Reply := ⟨s, .ok, readStackResult s⟩

/-- READ STACK (R144). -/
def execReadStack (tag : Byte) (s : State) : Host.Outcome State Fault Refusal :=
  serve (Instr.readStack tag).frame readStackBody s

end Sys2Proof.Machine
end

