-- ==== Sys2Proof/Machine/PortEvents.lean ====
section
/-! DEFINITION. The transactions of the Command Port (R163, R165, R168). -/

namespace Sys2Proof.Machine

/-- COMMAND_TRANSACTION: the port judges the bytes after the kind byte (R165 to R167); it serves in RUN and STARTING
(R163). -/
def execCommandTransaction (bytes : List Byte) (s : State) : Host.Outcome State Fault Refusal :=
  .next (if s.powered then s.commandEnds bytes else s)

/-- What the part sends after the kind byte: the mark, and after 96h the response (R168). -/
def State.fetchBytes (s : State) : List Byte :=
  match s.port with
  | .ready r => 0x96 :: r.bytes
  | .busy _ => [0x00]
  | .empty => [0x00]

/-- FETCH_TRANSACTION: as many bytes as the host clocks, 00h after the last; the port does not change (R168). -/
def execFetchTransaction (clocked : Nat) (s : State) : Host.Outcome State Fault Refusal :=
  .next (if s.powered then { s with sdo := (s.fetchBytes ++ List.replicate clocked 0x00).take clocked } else s)

/-- IGNORED_TRANSACTION: changes nothing (R163). -/
def execIgnoredTransaction (_first : Option Byte) (s : State) : Host.Outcome State Fault Refusal := .next s

end Sys2Proof.Machine
end

