-- ==== Sys2Proof/Machine/SupplyEvents.lean ====
section
/-! DEFINITION. Supplies, starts and the start check (R155 to R162), with DEVICE STATUS, RESTART and ERASE TABLES
(R158, R159, R172). -/

namespace Sys2Proof.Machine

/-- The bytes of DEVICE STATUS (R172). -/
def deviceStatusResult (s : State) : List Byte :=
  natField 2 Config.identity ++ natField 1 Config.revision ++ [s.phase.code, s.startCause.code, choiceByte s.refPresent]
    ++ natField 2 (allSlots.countP (fun i => (s.pair i).isNone))
    ++ natField 1 (allHolds.countP (fun h => !(s.hold h).held))
    ++ natField 2 (allSlots.countP (fun i => s.mapState i = .damaged))
    ++ [s.sweep.state.code, choiceByte s.globalEnable] ++ natField 1 s.stack.length

/-- DEVICE STATUS (R172): served in RUN and in STARTING. -/
def execDeviceStatus (tag : Byte) (s : State) : Host.Outcome State Fault Refusal :=
  let frame := (Instr.deviceStatus tag).frame
  .next (serveWith frame true (fun s => s.readied frame .ok (deviceStatusResult s)) s)

/-- A RUNNING sweep interrupted: its step withdrawn, its notice owed (R123). -/
def Sweep.interrupt (w : Sweep) : Sweep :=
  if w.state = .running then { w with state := .idle, ending := .interrupted, stopOwed := true } else w

/-- What the entry into RETAIN and a warm start by RESET_N or RESTART withdraw: usage-charge requests, expiry requests and
the sweep's step (R58, R80, R123). -/
def State.interrupt (s : State) : State :=
  { s.mapChannels (fun _ ch => ch.withdraw) with expiryRequests := [], sweep := s.sweep.interrupt }

/-- A channel when a warm start begins: a LIVE one PARKED with its permit held, the receiver hunting (R69, R102, R159). -/
def Channel.warmStart (ch : Channel) : Channel := { ch.park false with receiver := .hunting }

/-- A warm start begins (R154, R159, R164). -/
def State.warmStart (s : State) (cause : StartCause) : State :=
  { s.mapChannels (fun _ ch => ch.warmStart) with
    phase := .starting, startCause := cause, checkPosition := 0, refPresent := true, stack := [], globalEnable := false,
    port := .empty, replay := none }

/-- RESTART: a warm start with cause RESTART; no response is readied (R159, R164). -/
def execRestart (tag : Byte) (s : State) : Host.Outcome State Fault Refusal :=
  .next (serveWith (Instr.restart tag).frame false (fun s => s.interrupt.warmStart .restart) s)

/-- ERASE TABLES at its block: every table cold while the phase stays RUN; reference present and the divider stand
(R158). -/
def eraseTablesBody (s : State) : Reply :=
  ⟨({ s.coldTables with startCause := .erase, supplyNoticeOwed := false, checkPosition := 0, retention := true }).raiseDevice
      Cause.startDone, .ok, []⟩

/-- ERASE TABLES (R158). -/
def execEraseTables (tag : Byte) (s : State) : Host.Outcome State Fault Refusal :=
  serve (Instr.eraseTables tag).frame eraseTablesBody s

/-- A command in progress dropped with the loss of VDD; it gets no response (R156, R164). -/
def PortState.dropCommand : PortState → PortState
  | .busy _ => .empty
  | .empty => .empty
  | .ready r => .ready r

/-- ENTER_RETAIN: VDD falls while VBK is present (R156). -/
def execEnterRetain (s : State) : Host.Outcome State Fault Refusal :=
  .next
    (if s.powered then
      { s.interrupt.mapChannels (fun _ ch => { ch with receiver := .hunting }) with
        phase := .retain, vbk := true, port := s.port.dropCommand }
    else s)

/-- SUPPLY_OFF: VBK is lost in RETAIN, or VDD without VBK; the tables and the retention mark are gone (R157, log 7). -/
def execSupplyOff (s : State) : Host.Outcome State Fault Refusal :=
  .next
    (if s.phase = .off then s
    else
      { s.coldTables with
        phase := .off, startCause := .cold, supplyNoticeOwed := false, checkPosition := 0, retention := false,
        divider := 0, vbk := false, port := .empty, replay := none })

/-- VBK_LOST: VBK goes while VDD is present; nothing that can be observed changes (R157). -/
def execVbkLost (s : State) : Host.Outcome State Fault Refusal :=
  .next (if s.powered then { s with vbk := false } else s)

/-- The phase becomes RUN after a cold start, and START_DONE is raised (R153, R157). -/
def State.coldRun (s : State) : State := ({ s with phase := .run, divider := 0 }).raiseDevice Cause.startDone

/-- COLD_START: VDD is applied with the retention mark absent; STARTING while RESET_N is low, else RUN (R157). -/
def execColdStart (s : State) : Host.Outcome State Fault Refusal :=
  .next
    (if s.phase = .off ∧ s.retention = false then
      let cold := { s.coldTables with
        phase := .starting, startCause := .cold, refPresent := true, supplyNoticeOwed := false, checkPosition := 0,
        retention := true, divider := 0, port := .empty, replay := none }
      if s.resetN then cold.coldRun else cold
    else s)

/-- SUPPLY_RETURN: VDD returns from RETAIN with the retention mark valid; a warm start with cause SUPPLY (R159). -/
def execSupplyReturn (s : State) : Host.Outcome State Fault Refusal :=
  .next
    (if s.phase = .retain ∧ s.retention then { s.warmStart .supply with supplyNoticeOwed := true } else s)

/-- RESET_PIN_FALL: with VDD present, a warm start with cause RESET_PIN; without it the fall is not seen (R159). -/
def execResetPinFall (s : State) : Host.Outcome State Fault Refusal :=
  .next
    (if s.resetN then
      let low := { s with resetN := false }
      if s.powered then low.interrupt.warmStart .resetPin else low
    else s)

/-- Whether the part is in a cold start held at STARTING by RESET_N (R157). -/
def State.coldHeld (s : State) : Bool := s.phase = .starting && s.startCause = .cold

/-- RESET_PIN_RISE: the start check may walk; a cold start held at STARTING moves to RUN (R157, R159). -/
def execResetPinRise (s : State) : Host.Outcome State Fault Refusal :=
  .next
    (let high := { s with resetN := true }
    if s.coldHeld ∧ s.resetN = false then high.coldRun else high)

/-- Whether the start check walks: a warm start, RESET_N high (R159, R160). -/
def State.checkWalks (s : State) : Bool := s.phase = .starting && s.startCause ≠ .cold && s.resetN

/-- START_CHECK_READ: the record at the check position is read and verified, and the position rises (R160). -/
def execStartCheckRead (s : State) : Host.Outcome State Fault Refusal :=
  .next
    (if s.checkWalks ∧ s.checkPosition < 256 then
      { (s.readRecord (Fin.ofNat 256 s.checkPosition)).1 with checkPosition := s.checkPosition + 1 }
    else s)

/-- One deferred quantity at the completion: charged when it is not zero and the account is OPEN and its record sound; a
mismatch leaves the quantity deferred (R161 stage 1, log 18). -/
def State.completionCharge (flow : Flow) (s : State) (c : Chan) : State :=
  let ch := s.channel c
  if ch.bound ∧ s.mapState ch.slot = .opened ∧ ch.deferred flow ≠ 0 then
    match s.readRecord ch.slot with
    | (s1, .sound _) => (s1.chargeDeferred c flow).1
    | (s1, .damaged) => s1
    | (s1, .free) => s1
  else s

/-- Stage 1 of the completion for one channel: import before export (R161). -/
def State.completionChannel (s : State) (c : Chan) : State :=
  (s.completionCharge .imp c).completionCharge .exp c

/-- The channels of OPEN accounts become LIVE (R161 stage 2). -/
def State.completionStates (s : State) : State :=
  s.mapChannels (fun _ ch => if ch.bound ∧ s.mapState ch.slot = .opened then { ch with state := .live } else ch)

/-- The redrive and the silence reload of one channel (R103, R161 stages 3 and 4). -/
def Channel.completion (ch : Channel) : Channel := if ch.bound then ch.evaluate.reloadSilence true else ch

/-- The causes of the completion (R161 stage 5). -/
def State.completionCauses (s : State) : State :=
  let s1 := s.raiseDevice Cause.startDone
  let s2 := if s1.supplyNoticeOwed then { s1.raiseFault Cause.supplyReturned with supplyNoticeOwed := false } else s1
  if s2.sweep.stopOwed then
    { s2.raiseDevice Cause.sweepStopped with sweep := { s2.sweep with stopOwed := false } }
  else s2

/-- The entries whose expiry request is issued at the entry into RUN (R80). -/
def State.dueHandles (s : State) : List Handle :=
  (allHolds.filter (fun h => (s.hold h).held && (s.hold h).expiryDue)).map s.handleOf

/-- The phase becomes RUN (R161 stage 6). -/
def State.completionRun (s : State) : State :=
  { s with phase := .run, divider := 0, expiryRequests := s.expiryRequests ++ s.dueHandles }

/-- The completion of the start check, its stages in order (R161). -/
def State.completion (s : State) : State :=
  let charged := allChannels.foldl State.completionChannel s
  ((charged.completionStates.mapChannels (fun _ ch => ch.completion)).completionCauses).completionRun

/-- START_CHECK_COMPLETION (R161). -/
def execStartCheckCompletion (s : State) : Host.Outcome State Fault Refusal :=
  .next (if s.checkWalks ∧ 256 ≤ s.checkPosition then s.completion else s)

end Sys2Proof.Machine
end

