-- ==== Sys2Proof/Machine/SweepCommands.lean ====
section
/-! DEFINITION. The period sweep of chapter 7: its commands (R116, R122, R125) and its step (R117 to R121). -/

namespace Sys2Proof.Machine

/-- START SWEEP at its block (R116). -/
def startSweepBody (number dir : Byte) (amount : BitVec 32) (selector start : Byte) (s : State) : Reply :=
  if s.sweep.state = .running then refuse s .busy
  else if number.toNat = 0 ∨ amount.toNat = 0 ∨ Config.maxAmount < amount.toNat then refuse s .badArgument
  else
    match dirArg dir, selectorArg selector with
    | some d, some sel =>
      let old := s.sweep
      ⟨{ s with sweep := ⟨.running, number.toNat, d, amount.toNat, sel, start.toNat, 0, .none, false⟩ }, .ok,
        natField 1 old.number ++ [old.ending.code] ++ natField 2 old.cursor ++ natField 2 old.changed⟩
    | _, _ => refuse s .badArgument

/-- START SWEEP (R116). -/
def execStartSweep (tag number dir : Byte) (amount : BitVec 32) (selector start : Byte) (s : State) :
    Host.Outcome State Fault Refusal :=
  serve (Instr.startSweep tag number dir amount selector start).frame (startSweepBody number dir amount selector start) s

/-- STOP SWEEP at its block: the outstanding step is withdrawn (R122). -/
def stopSweepBody (s : State) : Reply :=
  if s.sweep.state = .running then
    ⟨({ s with sweep := { s.sweep with state := .idle, ending := .stopped } }).raiseDevice Cause.sweepStopped, .ok,
      natField 1 s.sweep.number ++ natField 2 s.sweep.cursor ++ natField 2 s.sweep.changed⟩
  else refuse s .wrongState

/-- STOP SWEEP (R122). -/
def execStopSweep (tag : Byte) (s : State) : Host.Outcome State Fault Refusal :=
  serve (Instr.stopSweep tag).frame stopSweepBody s

/-- The bytes of READ SWEEP (R125). -/
def readSweepResult (w : Sweep) : List Byte :=
  [w.state.code] ++ natField 1 w.number ++ [w.dir.code] ++ natField 4 w.amount ++ [w.selector.code]
    ++ natField 2 w.cursor ++ natField 2 w.changed ++ [w.ending.code, choiceByte w.stopOwed]

/-- READ SWEEP at its block (R125). -/
def readSweepBody (s : State) : Reply := ⟨s, .ok, readSweepResult s.sweep⟩

/-- READ SWEEP (R125). -/
def execReadSweep (tag : Byte) (s : State) : Host.Outcome State Fault Refusal :=
  serve (Instr.readSweep tag).frame readSweepBody s

/-- Whether a class selector selects a class (R118). -/
def Selector.selects (cls : Nat) : Selector → Bool
  | .cls n => decide (cls = n.val)
  | .all => true

/-- Whether a step applies the sweep to the account it reads (R118). -/
def Sweep.appliesTo (w : Sweep) (a : Account) : Bool :=
  a.kind = .consumer && a.state.live && w.selector.selects a.cls && a.lastSweep ≠ w.number

/-- The movement of a sweep, drawn from no hold (R118). -/
def Sweep.move (w : Sweep) (a : Account) : Account :=
  match w.dir with
  | .debit => a.usageDebit w.amount
  | .credit => a.clampedCredit w.amount

/-- The sweep applied to the account in slot `i`: movement, settle, mark, count (R118). The settle's refill may lower the
balance of a pool that already carries the sweep's number (R19), by step 2 of R118 and against its last sentence. DESIGN
CHOICE, log 32, unsafe. -/
def State.applySweep (s : State) (i : Slot) : State :=
  let settled := (s.modifyAccount i s.sweep.move).settle i
  let marked := settled.modifyAccount i (fun a => { a with lastSweep := s.sweep.number })
  { marked with sweep := { marked.sweep with changed := marked.sweep.changed + 1 } }

/-- The step for a slot: applied or skipped (R117 to R119). -/
def State.stepSlot (s : State) (i : Slot) : State :=
  match s.readRecord i with
  | (s1, .sound a) => if s1.sweep.appliesTo a then s1.applySweep i else s1
  | (s1, .damaged) => s1
  | (s1, .free) => s1

/-- The cursor rises; past slot 255 the sweep ends DONE (R117, R121). -/
def State.advanceSweep (s : State) : State :=
  let next := s.sweep.cursor + 1
  if next < 256 then { s with sweep := { s.sweep with cursor := next } }
  else
    ({ s with sweep := { s.sweep with cursor := next, state := .idle, ending := .done } }).raiseDevice Cause.sweepDone

/-- Whether a step is outstanding at the Account Table (R117). -/
def State.stepOutstanding (s : State) : Bool :=
  s.phase = .run && s.sweep.state = .running && decide (s.sweep.cursor < 256)

/-- SWEEP_STEP: the Account Table takes the outstanding step (R117, R118). -/
def execSweepStep (s : State) : Host.Outcome State Fault Refusal :=
  .next (if s.stepOutstanding then (s.stepSlot (Fin.ofNat 256 s.sweep.cursor)).advanceSweep else s)

end Sys2Proof.Machine
end

