-- ==== Sys2Proof/Machine/TimeEvents.lean ====
section
/-! DEFINITION. Second events and what they bring about (R59, R78, R79, R96, R153), and the reference clock (R154). -/

namespace Sys2Proof.Machine

/-- Whether an entry's lifetime runs out with the next second event (R78). -/
def Hold.fallsDue (e : Hold) : Bool := e.held && !e.expiryDue && e.lifetime = 1

/-- One second event on a hold entry (R78). -/
def Hold.tick (e : Hold) : Hold :=
  if e.held ∧ e.expiryDue = false ∧ 0 < e.lifetime then
    { e with lifetime := e.lifetime - 1, expiryDue := e.lifetime = 1 }
  else e

/-- The Hold Table's part of a second event: every counted entry lowered, an expiry request issued for each whose
lifetime reaches 0 (R78). -/
def State.holdsTick (s : State) : State :=
  { s.mapHolds (fun _ e => e.tick) with
    expiryRequests := s.expiryRequests ++ (allHolds.filter (fun h => (s.hold h).fallsDue)).map s.handleOf }

/-- The Permit Unit's and the Meter Channels' parts of a second event (R59, R96). -/
def State.channelsTick (s : State) : State :=
  { s.mapChannels (fun c ch => ch.secondTick (Config.silenceFirst s.choice c)) with choice := s.choice + 1 }

/-- A second event: the divider starts again and the three blocks act (R153). -/
def State.second (s : State) : State :=
  if s.secondsRun then { s.holdsTick.channelsTick with divider := 0 } else s

/-- SECOND_EVENT: the 32,768th period of REFCK since the last one (R153). -/
def execSecondEvent (s : State) : Host.Outcome State Fault Refusal := .next s.second

/-- One period of REFCK (R153). -/
def State.refckPeriod (s : State) : State :=
  if s.secondsRun then
    if s.divider + 1 < Config.refckPerSecond then { s with divider := s.divider + 1 } else s.second
  else s

/-- HOLD_LIFETIME_EXPIRY: the last second of one entry's lifetime is counted (R78, log 8). -/
def execHoldLifetimeExpiry (entry : HoldIdx) (s : State) : Host.Outcome State Fault Refusal :=
  .next
    (if s.secondsRun ∧ (s.hold entry).fallsDue then
      { s.modifyHold entry Hold.tick with expiryRequests := s.expiryRequests ++ [s.handleOf entry] }
    else s)

/-- The Account Table takes an expiry request whose handle is honoured (R79). -/
def State.expire (s : State) (h : HoldIdx) : State :=
  let i := (s.hold h).slot
  match s.readRecord i with
  | (s1, .sound _) => ((s1.freeHold i h).raiseAccount i Cause.holdExpired).settle i
  | (s1, .damaged) => s1
  | (s1, .free) => s1

/-- HOLD_EXPIRY: an issued expiry request is taken; it does nothing when its handle is no longer honoured (R79). -/
def execHoldExpiry (handle : Handle) (s : State) : Host.Outcome State Fault Refusal :=
  .next
    (if s.phase = .run ∧ handle ∈ s.expiryRequests then
      let taken := { s with expiryRequests := s.expiryRequests.erase handle }
      if s.honoured handle then taken.expire handle.idx else taken
    else s)

/-- GRACE_EXPIRY: the last second of one channel's grace is counted (R96, log 8). -/
def execGraceExpiry (channel : Chan) (s : State) : Host.Outcome State Fault Refusal :=
  .next
    (if s.secondsRun ∧ (s.channel channel).permit = .grace ∧ (s.channel channel).graceRemaining ≤ 1 then
      s.modifyChannel channel Channel.graceTick
    else s)

/-- SILENCE_TIMEOUT: the last second of one channel's silence counter is counted (R59, log 8). -/
def execSilenceTimeout (channel : Chan) (s : State) : Host.Outcome State Fault Refusal :=
  .next
    (if s.secondsRun ∧ (s.channel channel).silenceCounter = 1 then s.modifyChannel channel Channel.silenceTick else s)

/-- REFERENCE_LOST: reference present clears and TIME_BASE_LOST is raised (R154); the detector works while the part has
VDD, and a reference already absent is not lost again. -/
def execReferenceLost (s : State) : Host.Outcome State Fault Refusal :=
  .next
    (if s.powered ∧ s.refPresent then ({ s with refPresent := false }).raiseFault Cause.timeBaseLost else s)

/-- REFERENCE_RETURNED: reference present sets; no cause is raised (R154). -/
def execReferenceReturned (s : State) : Host.Outcome State Fault Refusal :=
  .next (if s.powered then { s with refPresent := true } else s)

end Sys2Proof.Machine
end

