-- ==== Sys2Proof/Machine/Dispatch.lean ====
section
/-! DEFINITION. The dispatch: one arm for each command, one direct call of its meaning. -/

namespace Sys2Proof.Machine

def exec (i : Instr) (s : State) : Host.Outcome State Fault Refusal :=
  match i with
  | .commandTransaction bytes => Sys2Proof.Machine.execCommandTransaction bytes s
  | .fetchTransaction clocked => Sys2Proof.Machine.execFetchTransaction clocked s
  | .ignoredTransaction first => Sys2Proof.Machine.execIgnoredTransaction first s
  | .deviceStatus tag => Sys2Proof.Machine.execDeviceStatus tag s
  | .restart tag => Sys2Proof.Machine.execRestart tag s
  | .eraseTables tag => Sys2Proof.Machine.execEraseTables tag s
  | .openAccount tag accountTag kind cls floor lowMark ceiling => Sys2Proof.Machine.execOpenAccount tag accountTag kind cls floor lowMark ceiling s
  | .setLimits tag slot floor lowMark ceiling => Sys2Proof.Machine.execSetLimits tag slot floor lowMark ceiling s
  | .setClass tag slot cls => Sys2Proof.Machine.execSetClass tag slot cls s
  | .adjust tag slot dir amount force => Sys2Proof.Machine.execAdjust tag slot dir amount force s
  | .freeze tag slot => Sys2Proof.Machine.execFreeze tag slot s
  | .thaw tag slot => Sys2Proof.Machine.execThaw tag slot s
  | .close tag slot => Sys2Proof.Machine.execClose tag slot s
  | .release tag slot => Sys2Proof.Machine.execRelease tag slot s
  | .readAccount tag slot => Sys2Proof.Machine.execReadAccount tag slot s
  | .readFigures tag slot => Sys2Proof.Machine.execReadFigures tag slot s
  | .findTag tag accountTag => Sys2Proof.Machine.execFindTag tag accountTag s
  | .clearSticky tag slot => Sys2Proof.Machine.execClearSticky tag slot s
  | .writeTariff tag index rate shift mode => Sys2Proof.Machine.execWriteTariff tag index rate shift mode s
  | .readTariff tag index => Sys2Proof.Machine.execReadTariff tag index s
  | .bindChannel tag channel slot importTariff exportTariff => Sys2Proof.Machine.execBindChannel tag channel slot importTariff exportTariff s
  | .unbindChannel tag channel => Sys2Proof.Machine.execUnbindChannel tag channel s
  | .resyncChannel tag channel => Sys2Proof.Machine.execResyncChannel tag channel s
  | .readChannel tag channel clear => Sys2Proof.Machine.execReadChannel tag channel clear s
  | .setChannelOptions tag channel grace silenceTimeout autoRestore silentCut => Sys2Proof.Machine.execSetChannelOptions tag channel grace silenceTimeout autoRestore silentCut s
  | .placeHold tag slot amount lifetime => Sys2Proof.Machine.execPlaceHold tag slot amount lifetime s
  | .captureHold tag handle amount => Sys2Proof.Machine.execCaptureHold tag handle amount s
  | .releaseHold tag handle => Sys2Proof.Machine.execReleaseHold tag handle s
  | .readHold tag handle => Sys2Proof.Machine.execReadHold tag handle s
  | .listHolds tag slot => Sys2Proof.Machine.execListHolds tag slot s
  | .drawHold tag channel handle => Sys2Proof.Machine.execDrawHold tag channel handle s
  | .endDraw tag channel => Sys2Proof.Machine.execEndDraw tag channel s
  | .restorePermit tag channel => Sys2Proof.Machine.execRestorePermit tag channel s
  | .cutPermit tag channel => Sys2Proof.Machine.execCutPermit tag channel s
  | .setRefill tag slot pool amount count => Sys2Proof.Machine.execSetRefill tag slot pool amount count s
  | .clearRefill tag slot => Sys2Proof.Machine.execClearRefill tag slot s
  | .startSweep tag number dir amount selector start => Sys2Proof.Machine.execStartSweep tag number dir amount selector start s
  | .stopSweep tag => Sys2Proof.Machine.execStopSweep tag s
  | .readSweep tag => Sys2Proof.Machine.execReadSweep tag s
  | .setNotice tag source level group mask enable => Sys2Proof.Machine.execSetNotice tag source level group mask enable s
  | .noticesOn tag => Sys2Proof.Machine.execNoticesOn tag s
  | .noticesOff tag => Sys2Proof.Machine.execNoticesOff tag s
  | .takeNotice tag => Sys2Proof.Machine.execTakeNotice tag s
  | .endNotice tag => Sys2Proof.Machine.execEndNotice tag s
  | .readPending tag source => Sys2Proof.Machine.execReadPending tag source s
  | .clearCauses tag source causes => Sys2Proof.Machine.execClearCauses tag source causes s
  | .readStack tag => Sys2Proof.Machine.execReadStack tag s
  | .rebuildAccount tag slot balance floor lowMark ceiling charged credited lastSweep => Sys2Proof.Machine.execRebuildAccount tag slot balance floor lowMark ceiling charged credited lastSweep s
  | .discardAccount tag slot => Sys2Proof.Machine.execDiscardAccount tag slot s
  | .nextDamaged tag slot => Sys2Proof.Machine.execNextDamaged tag slot s
  | .reportFrame line lineSeq q0 q1 q2 flags check => Sys2Proof.Machine.execReportFrame line lineSeq q0 q1 q2 flags check s
  | .frameGapTimeout line => Sys2Proof.Machine.execFrameGapTimeout line s
  | .framingMarkAbandon line => Sys2Proof.Machine.execFramingMarkAbandon line s
  | .usageCharge channel => Sys2Proof.Machine.execUsageCharge channel s
  | .secondEvent => Sys2Proof.Machine.execSecondEvent s
  | .holdLifetimeExpiry entry => Sys2Proof.Machine.execHoldLifetimeExpiry entry s
  | .holdExpiry handle => Sys2Proof.Machine.execHoldExpiry handle s
  | .graceExpiry channel => Sys2Proof.Machine.execGraceExpiry channel s
  | .silenceTimeout channel => Sys2Proof.Machine.execSilenceTimeout channel s
  | .sweepStep => Sys2Proof.Machine.execSweepStep s
  | .referenceLost => Sys2Proof.Machine.execReferenceLost s
  | .referenceReturned => Sys2Proof.Machine.execReferenceReturned s
  | .enterRetain => Sys2Proof.Machine.execEnterRetain s
  | .supplyOff => Sys2Proof.Machine.execSupplyOff s
  | .vbkLost => Sys2Proof.Machine.execVbkLost s
  | .coldStart => Sys2Proof.Machine.execColdStart s
  | .supplyReturn => Sys2Proof.Machine.execSupplyReturn s
  | .resetPinFall => Sys2Proof.Machine.execResetPinFall s
  | .resetPinRise => Sys2Proof.Machine.execResetPinRise s
  | .startCheckRead => Sys2Proof.Machine.execStartCheckRead s
  | .startCheckCompletion => Sys2Proof.Machine.execStartCheckCompletion s
  | .frameSync line => Sys2Proof.Machine.execFrameSync line s

end Sys2Proof.Machine
end

