-- ==== Sys2Proof/Machine/Step.lean ====
section
/-! DEFINITION. One step: the command at the front of the queue, or one period of REFCK when the queue is empty. -/

namespace Sys2Proof.Machine

/-- One step (log 2). The command at the front of the queue is taken out and carried out on the rest; with no command
waiting, a period of REFCK passes (R153). -/
def step (s : State) : Host.Outcome State Fault Refusal :=
  match s.pending with
  | [] => .next s.refckPeriod
  | i :: rest => exec i { s with pending := rest }

/-- The command that a table word spells, put at the front of the queue; no word of this table spells one. -/
def State.withFetchWord (s : State) (nbits w : Nat) : State :=
  match decodeTableWord nbits w with
  | some i => { s with pending := i :: s.pending }
  | none => s

end Sys2Proof.Machine
end

