-- ==== Sys2Proof/Safety.lean ====
section
/-! DEFINITION. What the statements speak of: when a command is at its block, when a record is sound, and the relations
between the tables that the spec says the part keeps. -/

namespace Sys2Proof.Machine

/-- The part runs and the port has taken the frame of this command, so that its block takes it next (R164, R166). -/
def State.atBlock (s : State) (c : Instr) : Prop := s.phase = .run ∧ s.port = .busy c.frame

/-- The record of slot `i` passes the read of a request: the map holds it neither FREE nor DAMAGED, and its check word
agrees with its contents (R146). -/
def State.sound (s : State) (i : Slot) : Prop :=
  s.mapState i ≠ .free ∧ s.mapState i ≠ .damaged ∧ (s.account i).syndrome = 0

/-- The read of slot `i` finds a check word mismatch (R147). -/
def State.mismatched (s : State) (i : Slot) : Prop :=
  s.mapState i ≠ .free ∧ s.mapState i ≠ .damaged ∧ (s.account i).syndrome ≠ 0

/-- The service stack holds at most 16 entries of levels 1 to 16, strictly rising from bottom to top (R131). -/
def State.stackWf (s : State) : Prop :=
  s.stack.length ≤ 16 ∧ s.stack.Pairwise (fun upper lower => lower.level < upper.level) ∧
    ∀ e ∈ s.stack, 1 ≤ e.level ∧ e.level ≤ 16

/-- A permit stands ON or GRACE in RUN only while its channel is LIVE (R92); an UNBOUND channel is OFF, and during a cold
start held at STARTING every channel is UNBOUND (R97, R157). -/
def State.permitWf (s : State) : Prop :=
  (∀ c, (s.channel c).state = .unbound → (s.channel c).permit = .off) ∧
  (s.phase = .run → ∀ c, (s.channel c).permit ≠ .off → (s.channel c).state = .live) ∧
  (s.phase = .starting → s.startCause = .cold → ∀ c, (s.channel c).state = .unbound)

/-- The uses count of each tariff entry is the number of bound channels that name it (R32). -/
def State.usesWf (s : State) : Prop :=
  ∀ t, (s.tariff t).uses = s.channels.toList.countP (Channel.names t)

/-- No two pairs of the tag map carry one tag, none carries tag 0, and none carries the state FREE (R2). -/
def State.tagsWf (s : State) : Prop :=
  (∀ i p, s.pair i = some p → p.tag ≠ 0 ∧ p.state ≠ .free) ∧
  ∀ i j p q, s.pair i = some p → s.pair j = some q → p.tag = q.tag → i = j

/-- A record in OPEN, FROZEN or RETIRED keeps its balance at or below the ceiling and its limits in order (R6, all but the
lower bound of the balance). -/
def Account.limitsWf (a : Account) : Prop :=
  a.state = .opened ∨ a.state = .frozen ∨ a.state = .retired →
    a.floor ≤ 0 ∧ a.floor ≤ a.lowMark ∧ a.lowMark < a.ceiling ∧ a.balance ≤ a.ceiling

/-- Every record keeps its limits. -/
def State.limitsWf (s : State) : Prop := ∀ i, (s.account i).limitsWf

/-- A FREE hold entry is zero but for its generation; a HELD one reserves 1 to 2^31 - 1, and its lifetime is 0 once its
expiry is due (R70). -/
def Hold.wf (e : Hold) : Prop :=
  (e.held = false → e = ⟨false, e.generation, 0, 0, 0, false, none⟩) ∧
  (e.held = true → 1 ≤ e.amount ∧ e.amount ≤ Config.maxAmount ∧ e.lifetime ≤ 65535) ∧
  (e.expiryDue = true → e.lifetime = 0)

/-- Every hold entry keeps the values of R70. -/
def State.holdsWf (s : State) : Prop := ∀ h, (s.hold h).wf

/-- The sweep record keeps the values of R115: the cursor and the changed count in range, and while it is RUNNING a slot
to step, a number, an amount and the ending NONE. -/
def Sweep.wf (w : Sweep) : Prop :=
  w.cursor ≤ 256 ∧ w.changed ≤ w.cursor ∧ w.number ≤ 255 ∧ w.amount ≤ Config.maxAmount ∧
    (w.state = .running → w.cursor < 256 ∧ 1 ≤ w.number ∧ 1 ≤ w.amount ∧ w.ending = .none ∧ w.stopOwed = false)

/-- Where the phase and the retention mark agree, and what a start check finds emptied (R131, R141, R155, R157). -/
def State.supplyWf (s : State) : Prop :=
  (s.phase = .off ↔ s.retention = false) ∧ s.checkPosition ≤ 256 ∧ s.divider < Config.refckPerSecond ∧
    (s.phase = .starting → s.stack = [] ∧ s.globalEnable = false ∧ s.sweep.state = .idle ∧ s.expiryRequests = [] ∧
      ∀ c, (s.channel c).requests = [] ∧ (s.channel c).state ≠ .live) ∧
    (s.phase = .retain → s.sweep.state = .idle ∧ s.expiryRequests = [] ∧ ∀ c, (s.channel c).requests = [])

/-- The account slot that a host command names and checks first, by R18, R62, R74, R89, R105 and R107. -/
def namedAccount : Instr → Option Slot
  | .setLimits _ slot _ _ _ => some slot
  | .setClass _ slot _ => some slot
  | .adjust _ slot _ _ _ => some slot
  | .freeze _ slot => some slot
  | .thaw _ slot => some slot
  | .close _ slot => some slot
  | .release _ slot => some slot
  | .readAccount _ slot => some slot
  | .readFigures _ slot => some slot
  | .clearSticky _ slot => some slot
  | .bindChannel _ _ slot _ _ => some slot
  | .placeHold _ slot _ _ => some slot
  | .listHolds _ slot => some slot
  | .setRefill _ slot _ _ _ => some slot
  | .clearRefill _ slot => some slot
  | _ => none

/-- The commands that name an account and accept a RETIRED one (R18, R89). -/
def acceptsRetired : Instr → Bool
  | .release _ _ => true
  | .readAccount _ _ => true
  | .readFigures _ _ => true
  | .clearSticky _ _ => true
  | .listHolds _ _ => true
  | _ => false

end Sys2Proof.Machine
end

