-- ==== Sys2Proof/Certificates/Slice0/Obligations.lean ====
section
/-! DEFINITION. The statements for the provers: what the commands do, and what every step keeps. -/

open Sys2Proof Sys2Proof.Machine

/-! The machine: one step, and the state after reset. -/

/-- A step takes the command at the front of the queue and carries it out on the rest (log 2). -/
def Obligations.StepTakesFrontCommand : Prop :=
  ∀ (c : Instr) (rest : List Instr) (s : State), s.pending = c :: rest → step s = exec c { s with pending := rest }

/-- Reset is the state a cold start leaves with RESET_N high (R157; log 1). -/
def Obligations.ResetIsColdStart : Prop :=
  (∀ i, State.reset.account i = .zero ∧ State.reset.pair i = none) ∧
  (∀ t, State.reset.tariff t = ⟨0, 0, .truncate, 0⟩) ∧
  (∀ c, State.reset.channel c = .zero) ∧
  (∀ h, State.reset.hold h = ⟨false, 0, 0, 0, 0, false, none⟩) ∧
  State.reset.sweep = ⟨.idle, 0, .debit, 0, .cls 0, 0, 0, .none, false⟩ ∧
  State.reset.device = ⟨0, 0, 0, false, Cause.startDone⟩ ∧
  State.reset.globalEnable = false ∧ State.reset.stack = [] ∧ State.reset.faults = ⟨0, 0⟩ ∧
  State.reset.phase = .run ∧ State.reset.startCause = .cold ∧ State.reset.refPresent = true ∧
  State.reset.supplyNoticeOwed = false ∧ State.reset.checkPosition = 0 ∧ State.reset.retention = true ∧
  State.reset.divider = 0 ∧ State.reset.port = .empty ∧ State.reset.replay = none ∧
  State.reset.expiryRequests = [] ∧ State.reset.pending = []

/-- Every relation of Safety.lean holds after reset. -/
def Obligations.InvariantsHoldAtReset : Prop :=
  State.reset.stackWf ∧ State.reset.permitWf ∧ State.reset.usesWf ∧ State.reset.tagsWf ∧ State.reset.limitsWf ∧
    State.reset.holdsWf ∧ State.reset.sweep.wf ∧ State.reset.supplyWf

/-! The relations that every step keeps. -/

/-- R131: at most 16 entries, their levels strictly rising from bottom to top. -/
def Obligations.StackStaysRising : Prop :=
  ∀ s t : State, s.stackWf → step s = .next t → t.stackWf

/-- R92: a permit stands in RUN only while its channel is LIVE. -/
def Obligations.PermitsStandOnLiveChannelsOnly : Prop :=
  ∀ s t : State, s.permitWf → step s = .next t → t.permitWf

/-- R32: a uses count is the number of bound channels that name the entry. -/
def Obligations.UsesCountsStayExact : Prop :=
  ∀ s t : State, s.usesWf → step s = .next t → t.usesWf

/-- R2: the tags of the map stay distinct and nonzero. -/
def Obligations.TagsStayDistinct : Prop :=
  ∀ s t : State, s.tagsWf → step s = .next t → t.tagsWf

/-- R6: limits stay in order and no balance passes its ceiling. -/
def Obligations.BalancesStayWithinCeilings : Prop :=
  ∀ s t : State, s.limitsWf → step s = .next t → t.limitsWf

/-- R70 and R115: the hold entries and the sweep record keep their values. -/
def Obligations.HoldsAndSweepKeepTheirValues : Prop :=
  ∀ s t : State, s.holdsWf ∧ s.sweep.wf → step s = .next t → t.holdsWf ∧ t.sweep.wf

/-- R117, R131, R155 to R159: what the phases RETAIN, STARTING and OFF leave standing. -/
def Obligations.PhasesKeepTheirConditions : Prop :=
  ∀ s t : State, s.supplyWf → step s = .next t → t.supplyWf

/-! The Command Port. -/

/-- A COMMAND transaction is discarded while the port is BUSY and is judged otherwise: an argument length above 32 is bad,
then a frame cut off is short, then a wrong check is bad; a good frame is answered from the replay memory when it is the
frame stored there (R165 to R167). -/
def Obligations.CommandTransactionIsJudged : Prop :=
  ∀ (bytes : List Byte) (s : State), s.phase = .run ∨ s.phase = .starting →
    let n := (bytes.getD 2 0).toNat
    let answer (st : Status) : State := { s with port := .ready ⟨st, false, bytes.getD 0 0, bytes.getD 1 0, []⟩ }
    (∀ f, s.port = .busy f → exec (.commandTransaction bytes) s = .next s) ∧
    ((∀ f, s.port ≠ .busy f) →
      (3 ≤ bytes.length ∧ 32 < n → exec (.commandTransaction bytes) s = .next (answer .frameBad)) ∧
      (¬(3 ≤ bytes.length ∧ 32 < n) → bytes.length < 4 + n →
        exec (.commandTransaction bytes) s = .next (answer .frameShort)) ∧
      (n ≤ 32 → 4 + n ≤ bytes.length →
        (crc8 0 (bytes.take (3 + n)) ≠ bytes.getD (3 + n) 0 →
          exec (.commandTransaction bytes) s = .next (answer .frameBad)) ∧
        (crc8 0 (bytes.take (3 + n)) = bytes.getD (3 + n) 0 →
          ∀ e, s.replay = some e → e.frame = bytes.take (4 + n) →
            exec (.commandTransaction bytes) s = .next { s with port := .ready { e.response with replayed := true } })))

/-- A good frame that is no replay is taken, bytes after its check byte ignored: a host command's frame makes the port BUSY;
a number not in the table, a wrong length and a command other than DEVICE STATUS during the start check are answered by
the port (R165, R166, R170). -/
def Obligations.GoodFrameIsTaken : Prop :=
  ∀ (tag number : Byte) (args extra : List Byte) (s : State),
    s.phase = .run ∨ s.phase = .starting → (∀ f, s.port ≠ .busy f) → args.length ≤ 32 →
    (∀ e, s.replay = some e → e.frame ≠ frameOf tag number args) →
    let frame := frameOf tag number args
    let answer (st : Status) : Response := ⟨st, false, tag, number, []⟩
    (argLength number = none → exec (.commandTransaction (frame ++ extra)) s =
      .next { s with port := .ready (answer .unknownCommand), replay := some ⟨frame, answer .unknownCommand⟩ }) ∧
    (∀ n, argLength number = some n →
      (n ≠ args.length → exec (.commandTransaction (frame ++ extra)) s =
        .next { s with port := .ready (answer .badLength), replay := some ⟨frame, answer .badLength⟩ }) ∧
      (n = args.length → s.phase = .starting → number ≠ 0x01 →
        exec (.commandTransaction (frame ++ extra)) s = .next { s with port := .ready (answer .starting) }) ∧
      (n = args.length → s.phase = .run ∨ number = 0x01 →
        exec (.commandTransaction (frame ++ extra)) s = .next { s with port := .busy frame }))

/-- A FETCH transaction sends the mark and the current response, then 00h, and changes nothing else; an ignored transaction
changes nothing, nor does any transaction without VDD; and RDY is high exactly while a response is held in RUN or STARTING.
That the bytes sent stand in a field of the model's State is its own choice (R163, R164, R168, R173; log 12). -/
def Obligations.FetchAndIgnoredTransactions : Prop :=
  ∀ (clocked : Nat) (first : Option Byte) (bytes : List Byte) (s : State),
    exec (.ignoredTransaction first) s = .next s ∧
    (s.rdy = true ↔ (s.phase = .run ∨ s.phase = .starting) ∧ ∃ r, s.port = .ready r) ∧
    (s.phase = .retain ∨ s.phase = .off →
      exec (.fetchTransaction clocked) s = .next s ∧ exec (.commandTransaction bytes) s = .next s) ∧
    (s.phase = .run ∨ s.phase = .starting →
      (∀ r, s.port = .ready r →
        let body := [r.status.code, if r.replayed then 0x01 else 0x00, r.tagEcho, r.numberEcho,
          BitVec.ofNat 8 r.result.length] ++ r.result
        exec (.fetchTransaction clocked) s =
          .next { s with sdo := (0x96 :: (body ++ [crc8 0 body]) ++ List.replicate clocked 0).take clocked }) ∧
      ((∀ r, s.port ≠ .ready r) → exec (.fetchTransaction clocked) s = .next { s with sdo := List.replicate clocked 0 }))

/-- The model's choice (log 3) for a host command's row: while the port is not BUSY its frame arrives whole, and is answered
from the replay memory or carried out; while the port is BUSY with another frame it is discarded; without VDD nothing is
received. What readying a response does to the port and to the replay memory, and which response a replay has (R163 to
R167). -/
def Obligations.HostCommandArrivesWhole : Prop :=
  ∀ (c : Instr) (s : State), c.hostArgs.isSome = true →
    (s.powered = true → (∀ f, s.port ≠ .busy f) →
      (s.replayOf c.frame = none → exec c s = exec c { s with port := .busy c.frame }) ∧
      (∀ r, s.replayOf c.frame = some r → exec c s = .next { s with port := .ready r })) ∧
    (∀ f, s.port = .busy f → f ≠ c.frame → exec c s = .next s) ∧
    (s.powered = false → exec c s = .next s) ∧
    (∀ (tag number : Byte) (args : List Byte), c.hostArgs = some (tag, number, args) → ∀ (st : Status) (result : List Byte),
      let response : Response := ⟨st, false, tag, number, result⟩
      s.readied c.frame st result =
        { s with port := .ready response, replay := if st = .starting then s.replay else some ⟨c.frame, response⟩ }) ∧
    (∀ (f : List Byte) (r : Response), s.replayOf f = some r ↔
      ∃ e, s.replay = some e ∧ e.frame = f ∧ r = { e.response with replayed := true })

/-- During the start check every command but DEVICE STATUS is answered STARTING, and the replay memory stands (R160, R167,
R170). -/
def Obligations.StartCheckAnswersStarting : Prop :=
  ∀ (c : Instr) (tag number : Byte) (args : List Byte) (s : State),
    c.hostArgs = some (tag, number, args) → number ≠ 0x01 → s.phase = .starting → s.port = .busy c.frame →
      exec c s = .next { s with port := .ready ⟨.starting, false, tag, number, []⟩ }

/-- The frame of every host command gives back the command, with every operand. -/
def Obligations.DecodeOfEncode : Prop :=
  ∀ (c : Instr) (tag number : Byte) (args : List Byte), c.hostArgs = some (tag, number, args) →
    argLength number = some args.length ∧ args.length ≤ 32 ∧ decodeCommand tag number args = some c

/-! The Account Table. -/

/-- OPEN ACCOUNT takes the lowest FREE slot and sets the whole record (R19). -/
def Obligations.OpenAccountCompletes : Prop :=
  ∀ (s : State) (tag kind cls : Byte) (accountTag : BitVec 32) (floor lowMark : BitVec 32) (ceiling : BitVec 40) (i : Slot),
    let c := Instr.openAccount tag accountTag kind cls floor lowMark ceiling
    s.atBlock c → kind = 0 ∨ kind = 1 → accountTag ≠ 0 → cls.toNat ≤ 15 →
    floor.toInt ≤ 0 → floor.toInt ≤ lowMark.toInt → lowMark.toInt < ceiling.toInt → 1 ≤ ceiling.toInt →
    (∀ j p, s.pair j = some p → p.tag ≠ accountTag) → s.pair i = none → (∀ j < i, s.pair j ≠ none) →
    let record : Account :=
      { state := .opened, tag := accountTag, kind := if kind = 0 then .consumer else .pool, cls := cls.toNat,
        balance := 0, floor := floor.toInt, lowMark := lowMark.toInt, ceiling := ceiling.toInt, heldTotal := 0,
        holdList := [], bindingCount := 0, refill := none, dependents := 0, charged := 0, credited := 0,
        clamped := false, overrun := false, low := decide (0 ≤ lowMark.toInt), empty := decide (floor.toInt = 0),
        lastSweep := if s.sweep.state = .running then s.sweep.number else 0, notice := ⟨0, 0, 0, false, 0⟩, syndrome := 0 }
    exec c s = .next (((s.setPair i (some ⟨accountTag, .opened⟩)).setAccount i record).readied c.frame .ok [BitVec.ofNat 8 i.val])

/-- The refusals of OPEN ACCOUNT and of ADJUST: their statuses in order, and no field of any record changed (R9, R10, R19,
R24). -/
def Obligations.OpenAndAdjustRefusals : Prop :=
  (∀ (s : State) (tag kind cls : Byte) (accountTag : BitVec 32) (floor lowMark : BitVec 32) (ceiling : BitVec 40),
    let c := Instr.openAccount tag accountTag kind cls floor lowMark ceiling
    let limits := floor.toInt ≤ 0 ∧ floor.toInt ≤ lowMark.toInt ∧ lowMark.toInt < ceiling.toInt ∧ 1 ≤ ceiling.toInt
    s.atBlock c →
    (accountTag = 0 ∨ (kind ≠ 0 ∧ kind ≠ 1) ∨ 15 < cls.toNat ∨ ¬limits →
      exec c s = .next (s.readied c.frame .badArgument [])) ∧
    (accountTag ≠ 0 → kind = 0 ∨ kind = 1 → cls.toNat ≤ 15 → limits →
      ((∃ j p, s.pair j = some p ∧ p.tag = accountTag) → exec c s = .next (s.readied c.frame .duplicateTag [])) ∧
      ((∀ j p, s.pair j = some p → p.tag ≠ accountTag) → (∀ j, s.pair j ≠ none) →
        exec c s = .next (s.readied c.frame .noSlot [])))) ∧
  (∀ (s : State) (tag dir force : Byte) (slot : Slot) (amount : BitVec 32),
    let c := Instr.adjust tag slot dir amount force
    let a := s.account slot
    s.atBlock c → s.sound slot → a.state = .opened ∨ a.state = .frozen →
    (amount.toNat = 0 ∨ 2147483647 < amount.toNat ∨ (dir ≠ 0 ∧ dir ≠ 1) ∨ (force ≠ 0 ∧ force ≠ 1) ∨ (dir = 1 ∧ force = 1) →
      exec c s = .next (s.readied c.frame .badArgument [])) ∧
    (1 ≤ amount.toNat → amount.toNat ≤ 2147483647 → force = 0 →
      (dir = 0 → a.balance - a.heldTotal - a.floor < amount.toNat →
        exec c s = .next (s.readied c.frame .insufficient [])) ∧
      (dir = 1 → a.ceiling < a.balance + amount.toNat → exec c s = .next (s.readied c.frame .overCeiling []))))

/-- The checks that a command naming an account by slot makes first: NOT_FOUND, DAMAGED (with the consequences of damage when
this read finds the mismatch), and WRONG_STATE for a RETIRED account when the command needs a live one (R18, R147, R148). -/
def Obligations.AccountChecks : Prop :=
  ∀ (c : Instr) (slot : Slot) (s : State), namedAccount c = some slot → s.atBlock c →
    (s.mapState slot = .free → exec c s = .next (s.readied c.frame .notFound [])) ∧
    (s.mapState slot = .damaged → exec c s = .next (s.readied c.frame .damaged [])) ∧
    (s.mismatched slot → exec c s = .next ((s.damage slot).readied c.frame .damaged [])) ∧
    (s.sound slot → (s.account slot).state = .retired → acceptsRetired c = false →
      exec c s = .next (s.readied c.frame .wrongState []))

/-- SET LIMITS and SET CLASS on a live account, and what they refuse (R25, R26). -/
def Obligations.SetLimitsAndClassComplete : Prop :=
  (∀ (s : State) (tag : Byte) (slot : Slot) (floor lowMark : BitVec 32) (ceiling : BitVec 40),
    let c := Instr.setLimits tag slot floor lowMark ceiling
    let a := s.account slot
    s.atBlock c → s.sound slot → a.state = .opened ∨ a.state = .frozen →
    floor.toInt ≤ 0 → floor.toInt ≤ lowMark.toInt → lowMark.toInt < ceiling.toInt → 1 ≤ ceiling.toInt →
    a.balance ≤ ceiling.toInt →
    let limited := s.setAccount slot { a with floor := floor.toInt, lowMark := lowMark.toInt, ceiling := ceiling.toInt }
    exec c s = .next ((limited.settle slot).readied c.frame .ok [])) ∧
  (∀ (s : State) (tag cls : Byte) (slot : Slot),
    let c := Instr.setClass tag slot cls
    s.atBlock c → s.sound slot → (s.account slot).state = .opened ∨ (s.account slot).state = .frozen → cls.toNat ≤ 15 →
    exec c s = .next ((s.setAccount slot { s.account slot with cls := cls.toNat }).readied c.frame .ok [])) ∧
  (∀ (s : State) (tag cls : Byte) (slot : Slot) (floor lowMark : BitVec 32) (ceiling : BitVec 40),
    let limits := Instr.setLimits tag slot floor lowMark ceiling
    let classed := Instr.setClass tag slot cls
    s.sound slot → (s.account slot).state = .opened ∨ (s.account slot).state = .frozen →
    (s.atBlock limits →
      ¬(floor.toInt ≤ 0 ∧ floor.toInt ≤ lowMark.toInt ∧ lowMark.toInt < ceiling.toInt ∧ 1 ≤ ceiling.toInt) ∨
        ceiling.toInt < (s.account slot).balance →
      exec limits s = .next (s.readied limits.frame .badArgument [])) ∧
    (s.atBlock classed → 15 < cls.toNat → exec classed s = .next (s.readied classed.frame .badArgument [])))

/-- ADJUST in its three forms: the movement, the settle sequence, and a response with the amount applied and the balance at
the end (R7, R9, R10, R24). -/
def Obligations.AdjustCompletes : Prop :=
  ∀ (s : State) (tag dir force : Byte) (slot : Slot) (amount : BitVec 32),
    let c := Instr.adjust tag slot dir amount force
    let a := s.account slot
    let n := amount.toNat
    let done (applied : Nat) (moved : Account) : State :=
      let t := (s.setAccount slot moved).settle slot
      t.readied c.frame .ok (leBytes 6 applied ++ leBytes 5 (BitVec.ofInt 40 (t.account slot).balance).toNat)
    s.atBlock c → s.sound slot → a.state = .opened ∨ a.state = .frozen → 1 ≤ n → n ≤ 2147483647 →
    (dir = 0 → force = 1 → exec c s = .next (done (min n (a.balance + 549755813888).toNat) (a.usageDebit n))) ∧
    (dir = 0 → force = 0 → (n : Int) ≤ a.balance - a.heldTotal - a.floor →
      exec c s = .next (done n { a with balance := a.balance - n, charged := min (a.charged + n) 281474976710655 })) ∧
    (dir = 1 → force = 0 → a.balance + n ≤ a.ceiling →
      exec c s = .next (done n { a with balance := a.balance + n, credited := min (a.credited + n) 281474976710655 }))

/-- A usage debit and a clamped credit on one record: the amount applied, the total that counts it, and the flag and cause
of an amount cut short (R7, R8, R11). -/
def Obligations.MovementsOfARecord : Prop :=
  ∀ (n : Nat) (a : Account),
    (let room := (a.balance + 549755813888).toNat
     (n ≤ room → a.usageDebit n =
        { a with balance := a.balance - n, charged := min (a.charged + n) 281474976710655 }) ∧
     (room < n → a.usageDebit n =
        { a with
          balance := a.balance - room, charged := min (a.charged + room) 281474976710655, overrun := true,
          notice := { a.notice with pending := a.notice.pending ||| Cause.overrun } })) ∧
    (let room := (a.ceiling - a.balance).toNat
     (n ≤ room → a.clampedCredit n =
        { a with balance := a.balance + n, credited := min (a.credited + n) 281474976710655 }) ∧
     (room < n → a.clampedCredit n =
        { a with
          balance := a.balance + room, credited := min (a.credited + room) 281474976710655, clamped := true,
          notice := { a.notice with pending := a.notice.pending ||| Cause.clamped } }))

/-- After the settle sequence the stored LOW and EMPTY states are the conditions as they hold, no hold is left standing on
an account whose free balance is at or below its floor, and nothing outside the records, the map, the channels, the hold
entries and the fault record has changed. How it comes there: stage (b) makes the attempt where an OPEN consumer enters LOW
with refills left, and none elsewhere; stage (c) breaks holds, youngest first, while the free balance is at or below the
floor, and raises HOLD_BROKEN once; stages (d) and (e) evaluate what those two have left, raise EMPTY and LOW on entry and
tell the bound channels. That LOW is not raised when breaking has lifted the free balance above the low mark after a failed
attempt is the model's choice (R12 to R16, R81; log 30). -/
def Obligations.SettleLeavesConditionsEvaluated : Prop :=
  (∀ (s : State) (i : Slot),
    let t := s.settle i
    let a := t.account i
    a.low = decide (a.balance - a.heldTotal ≤ a.lowMark) ∧ a.empty = decide (a.balance - a.heldTotal ≤ a.floor) ∧
    (a.holdList ≠ [] → a.floor < a.balance - a.heldTotal) ∧
    t = { s with accounts := t.accounts, tagMap := t.tagMap, channels := t.channels, holds := t.holds, faults := t.faults }) ∧
  (∀ (s : State) (i : Slot),
    let a := s.account i
    let entered : Prop := a.kind = .consumer ∧ a.state = .opened ∧ a.low = false ∧ a.balance - a.heldTotal ≤ a.lowMark
    (∀ r, entered → a.refill = some r → r.count ≠ 0 → s.refillStage i = s.refillAttempt i r) ∧
    (¬entered ∨ (∀ r, a.refill = some r → r.count = 0) → s.refillStage i = s)) ∧
  (∀ (s : State) (i : Slot),
    let a := s.account i
    let breaks : Prop := a.balance - a.heldTotal ≤ a.floor ∧ a.holdList ≠ []
    (¬breaks → s.breakStage i = s) ∧
    (breaks → s.breakStage i = (State.breakHolds a.holdList.length s i).raiseAccount i Cause.holdBroken) ∧
    ∀ n : Nat,
      (¬breaks → State.breakHolds n s i = s) ∧
      (∀ youngest, breaks → a.holdList.getLast? = some youngest →
        State.breakHolds (n + 1) s i = State.breakHolds n (s.freeHold i youngest) i)) ∧
  (∀ (s : State) (i : Slot),
    let b := (s.refillStage i).breakStage i
    let a := b.account i
    let low := decide (a.balance - a.heldTotal ≤ a.lowMark)
    let empty := decide (a.balance - a.heldTotal ≤ a.floor)
    let raised (enters : Bool) (cause : BitVec 16) : BitVec 16 := if enters then cause else 0
    let evaluated : Account :=
      { a with
        low := low, empty := empty,
        notice := { a.notice with
          pending := a.notice.pending ||| raised (empty && !a.empty) Cause.empty ||| raised (low && !a.low) Cause.low } }
    let told : Channel → Channel :=
      if empty = a.empty then id else if empty then Channel.emptyEntered else Channel.emptyLeft (s.phase = .run)
    s.settle i = (b.setAccount i evaluated).mapBound i told) ∧
  (∀ (s : State) (i : Slot) (cause : BitVec 16) (f : Channel → Channel) (d : Chan),
    let a := s.account i
    s.raiseAccount i cause =
      s.setAccount i { a with notice := { a.notice with pending := a.notice.pending ||| cause } } ∧
    s.mapBound i f = { s with channels := (s.mapBound i f).channels } ∧
    (s.mapBound i f).channel d =
      if (s.channel d).state ≠ .unbound ∧ (s.channel d).slot = i then f (s.channel d) else s.channel d)

/-- The settle sequence where stage (b) makes no attempt and stage (c) finds nothing to break: EMPTY and LOW raised on entry
alone, the stored states set, and each bound channel told when the stored EMPTY state has changed (R13 to R16). -/
def Obligations.SettleWithoutRefillOrBreaking : Prop :=
  ∀ (s : State) (i : Slot),
    let a := s.account i
    let low := decide (a.balance - a.heldTotal ≤ a.lowMark)
    let empty := decide (a.balance - a.heldTotal ≤ a.floor)
    (a.kind ≠ .consumer ∨ a.state ≠ .opened ∨ a.low = true ∨ low = false ∨ (∀ r, a.refill = some r → r.count = 0)) →
    empty = false ∨ a.holdList = [] →
    let raised (entered : Bool) (cause : BitVec 16) : BitVec 16 := if entered then cause else 0
    let evaluated : Account :=
      { a with
        low := low, empty := empty,
        notice := { a.notice with
          pending := a.notice.pending ||| raised (empty && !a.empty) Cause.empty ||| raised (low && !a.low) Cause.low } }
    let told : Channel → Channel :=
      if empty = a.empty then id else if empty then Channel.emptyEntered else Channel.emptyLeft (s.phase = .run)
    s.settle i = (s.setAccount i evaluated).mapBound i told

/-- FREEZE parks every LIVE channel of the account with its permit OFF; THAW makes the account OPEN and its channels LIVE,
charges their deferred quantities in ascending order (each as ChargeQuantityApplies says) and evaluates each once more; each
is refused in the state it leads to. A change of an account's state is made in the map and in the record (R20, R21, R97,
R146). -/
def Obligations.FreezeAndThawComplete : Prop :=
  (∀ (s : State) (tag : Byte) (slot : Slot),
    let c := Instr.freeze tag slot
    s.atBlock c → s.sound slot → (s.account slot).state = .opened →
    let parked (ch : Channel) : Channel :=
      if ch.state = .live then
        { ch with
          state := .parked, permit := .off, graceRemaining := if ch.permit = .off then ch.graceRemaining else 0 }
      else ch
    exec c s = .next (((s.setLife slot .frozen).mapBound slot parked).readied c.frame .ok [])) ∧
  (∀ (s : State) (tag : Byte) (slot : Slot),
    let c := Instr.thaw tag slot
    s.atBlock c → s.sound slot → (s.account slot).state = .frozen →
    let opened := (s.setLife slot .opened).mapBound slot
      (fun ch => if ch.state = .parked then ({ ch with state := .live }).evaluate else ch)
    let charged := [(0 : Chan), 1, 2, 3, 4, 5, 6, 7].foldl
      (fun t c => if (t.channel c).boundTo slot then (t.chargeBoth c).1 else t) opened
    exec c s = .next ((charged.mapBound slot Channel.evaluate).readied c.frame .ok [])) ∧
  (∀ (s : State) (tag : Byte) (slot : Slot),
    let freeze := Instr.freeze tag slot
    let thaw := Instr.thaw tag slot
    s.sound slot →
    (s.atBlock freeze → (s.account slot).state = .frozen → exec freeze s = .next (s.readied freeze.frame .wrongState [])) ∧
    (s.atBlock thaw → (s.account slot).state = .opened → exec thaw s = .next (s.readied thaw.frame .wrongState []))) ∧
  (∀ (s : State) (slot : Slot) (life : LifeState),
    s.setLife slot life =
      let mapped := s.setPair slot ((s.pair slot).map (fun p => ⟨p.tag, life⟩))
      mapped.setAccount slot { s.account slot with state := life })

/-- CLOSE of an account with no bound channels and no dependents frees its holds oldest first, removes its specification and
makes it RETIRED, and is refused while channels are bound or dependents remain; RELEASE of a RETIRED account makes its slot
FREE with every field zero, and is refused for a live one. That CLOSE answers its count of holds in one byte is the model's
reading (R22, R23, R86; log 13). -/
def Obligations.CloseAndReleaseComplete : Prop :=
  (∀ (s : State) (tag : Byte) (slot : Slot),
    let c := Instr.close tag slot
    let a := s.account slot
    s.atBlock c → s.sound slot → a.state = .opened ∨ a.state = .frozen → a.bindingCount = 0 →
    a.kind ≠ .pool ∨ a.dependents = 0 →
    let freed := a.holdList.foldl (fun t h => t.freeHold slot h) s
    let emptied := freed.setAccount slot { freed.account slot with holdList := [], heldTotal := 0 }
    exec c s = .next (((emptied.dropRefill slot).setLife slot .retired).readied c.frame .ok [BitVec.ofNat 8 a.holdList.length])) ∧
  (∀ (s : State) (tag : Byte) (slot : Slot),
    let c := Instr.release tag slot
    s.atBlock c → s.sound slot → (s.account slot).state = .retired →
    exec c s = .next (((s.setPair slot none).setAccount slot .zero).readied c.frame .ok [])) ∧
  (∀ (s : State) (tag : Byte) (slot : Slot),
    let close := Instr.close tag slot
    let release := Instr.release tag slot
    let a := s.account slot
    s.sound slot → a.state = .opened ∨ a.state = .frozen →
    (s.atBlock close →
      (0 < a.bindingCount → exec close s = .next (s.readied close.frame .bound [])) ∧
      (a.bindingCount = 0 → a.kind = .pool → 0 < a.dependents → exec close s = .next (s.readied close.frame .inUse []))) ∧
    (s.atBlock release → exec release s = .next (s.readied release.frame .wrongState [])))

/-- READ ACCOUNT, READ FIGURES and FIND TAG answer from the record or the map and change nothing; CLEAR STICKY answers the two
flags and clears them (R27 to R30, R175). -/
def Obligations.AccountReadsComplete : Prop :=
  ∀ (s : State) (tag : Byte) (slot : Slot),
    let a := s.account slot
    (s.atBlock (.readAccount tag slot) → s.sound slot →
      exec (.readAccount tag slot) s = .next (s.readied (Instr.readAccount tag slot).frame .ok
        ([a.state.code, a.kind.code, BitVec.ofNat 8 a.cls] ++ leBytes 4 a.tag.toNat
          ++ leBytes 4 (BitVec.ofInt 32 (max (-2147483648) (min 2147483647 a.balance))).toNat
          ++ [BitVec.ofNat 8 (flagByte [a.wide, a.negative, a.low, a.empty, a.clamped, a.overrun, a.refill.isSome]),
              BitVec.ofNat 8 a.holdList.length, BitVec.ofNat 8 a.bindingCount,
              BitVec.ofNat 8 (refillFields a.refill).1, BitVec.ofNat 8 (refillFields a.refill).2.2,
              BitVec.ofNat 8 a.dependents]))) ∧
    (s.atBlock (.readFigures tag slot) → s.sound slot →
      exec (.readFigures tag slot) s = .next (s.readied (Instr.readFigures tag slot).frame .ok
        (leBytes 5 (BitVec.ofInt 40 a.balance).toNat ++ leBytes 4 (BitVec.ofInt 32 a.floor).toNat
          ++ leBytes 4 (BitVec.ofInt 32 a.lowMark).toNat ++ leBytes 5 (BitVec.ofInt 40 a.ceiling).toNat
          ++ leBytes 5 a.heldTotal ++ leBytes 6 a.charged ++ leBytes 6 a.credited ++ leBytes 1 a.lastSweep
          ++ leBytes 4 (refillFields a.refill).2.1))) ∧
    (∀ accountTag : BitVec 32, s.atBlock (.findTag tag accountTag) →
      (accountTag = 0 → exec (.findTag tag accountTag) s =
        .next (s.readied (Instr.findTag tag accountTag).frame .badArgument [])) ∧
      (accountTag ≠ 0 → (∀ j p, s.pair j = some p → p.tag ≠ accountTag) → exec (.findTag tag accountTag) s =
        .next (s.readied (Instr.findTag tag accountTag).frame .notFound [])) ∧
      (accountTag ≠ 0 → ∀ p, s.pair slot = some p → p.tag = accountTag →
        (∀ j q, s.pair j = some q → q.tag = accountTag → j = slot) →
        exec (.findTag tag accountTag) s =
          .next (s.readied (Instr.findTag tag accountTag).frame .ok [BitVec.ofNat 8 slot.val, p.state.code]))) ∧
    (s.atBlock (.clearSticky tag slot) → s.sound slot →
      exec (.clearSticky tag slot) s = .next ((s.setAccount slot { a with clamped := false, overrun := false }).readied
        (Instr.clearSticky tag slot).frame .ok
        [if a.clamped then 0x01 else 0x00, if a.overrun then 0x01 else 0x00]))

/-! The Tariff Table. -/

/-- The charge for a quantity (R34). -/
def Obligations.ChargeCalculation : Prop :=
  ∀ (t : Tariff) (q : Nat),
    (t.mode = .nearest → 1 ≤ t.shift → t.charge q = (q * t.rate + 2 ^ (t.shift - 1)) / 2 ^ t.shift) ∧
    (t.mode = .truncate → t.charge q = q * t.rate / 2 ^ t.shift) ∧
    (t.shift = 0 → t.charge q = q * t.rate) ∧
    (t.rate = 0 ∨ q = 0 → t.charge q = 0) ∧
    (q ≤ 4294967295 → t.rate ≤ 65535 → t.shift ≤ 15 → t.charge q ≤ 281470681677825)

/-- WRITE TARIFF replaces rate, shift and mode together and answers what they were; READ TARIFF answers the entry and
changes nothing; an index or a shift above 15 and a mode that is neither are refused. That both answer the uses count in one
byte is the model's reading (R40, R42; log 13). -/
def Obligations.TariffCommandsComplete : Prop :=
  ∀ (s : State) (tag index shift mode : Byte) (rate : BitVec 16),
    let w := Instr.writeTariff tag index rate shift mode
    let r := Instr.readTariff tag index
    (∀ t : TariffIdx, index = BitVec.ofNat 8 t.val →
      let e := s.tariff t
      let answer := leBytes 2 e.rate ++ [BitVec.ofNat 8 e.shift, e.mode.code, BitVec.ofNat 8 e.uses]
      (s.atBlock w → shift.toNat ≤ 15 → mode = 0 ∨ mode = 1 →
        exec w s = .next ((s.setTariff t ⟨rate.toNat, shift.toNat, if mode = 0 then .truncate else .nearest, e.uses⟩).readied
          w.frame .ok answer)) ∧
      (s.atBlock r → exec r s = .next (s.readied r.frame .ok answer))) ∧
    (s.atBlock w → 15 < index.toNat ∨ 15 < shift.toNat ∨ (mode ≠ 0 ∧ mode ≠ 1) →
      exec w s = .next (s.readied w.frame .badArgument [])) ∧
    (s.atBlock r → 15 < index.toNat → exec r s = .next (s.readied r.frame .badArgument []))

/-! The Meter Channels. -/

/-- BIND CHANNEL on a live consumer and an UNBOUND channel: the channel takes the slot and the tariffs, the binding count and
the uses counts rise, and the permit comes ON when the account is OPEN and not EMPTY; and its refusals, in order (R32, R62,
R63, R91). -/
def Obligations.BindChannelCompletes : Prop :=
  (∀ (s : State) (tag number imp out : Byte) (slot : Slot),
    let c := Instr.bindChannel tag number slot imp out
    let a := s.account slot
    let refused (st : Status) : Prop := exec c s = .next (s.readied c.frame st [])
    let inRange : Prop := number.toNat ≤ 7 ∧ imp.toNat ≤ 15 ∧ out.toNat ≤ 15
    s.atBlock c → s.sound slot → a.state = .opened ∨ a.state = .frozen →
    (¬inRange → refused .badArgument) ∧
    (inRange → a.kind ≠ .consumer → refused .wrongKind) ∧
    (inRange → a.kind = .consumer → ∀ d : Chan, number = BitVec.ofNat 8 d.val → (s.channel d).state ≠ .unbound →
      refused .wrongState)) ∧
  ∀ (s : State) (tag : Byte) (slot : Slot) (d : Chan) (imp exp : TariffIdx),
    let c := Instr.bindChannel tag (BitVec.ofNat 8 d.val) slot (BitVec.ofNat 8 imp.val) (BitVec.ofNat 8 exp.val)
    let a := s.account slot
    let ch := s.channel d
    s.atBlock c → s.sound slot → a.state = .opened ∨ a.state = .frozen → a.kind = .consumer →
    ch.state = .unbound → ch.permit = .off →
    let bumped (t : TariffIdx) (u : State) : State := u.setTariff t { u.tariff t with uses := (u.tariff t).uses + 1 }
    let counted := bumped imp (s.setAccount slot { a with bindingCount := a.bindingCount + 1 })
    let used := if exp = imp then counted else bumped exp counted
    let bound : Channel :=
      { ch with
        state := if a.state = .opened then .live else .parked, slot := slot, importTariff := imp, exportTariff := exp,
        sync := none, silent := false, tamper := false, silenceCounter := ch.silenceTimeout, drawing := none,
        deferredImport := 0, deferredExport := 0, cutLatch := false, hostCut := false, emptyMark := a.empty,
        permit := if a.state = .opened ∧ a.empty = false then .on else .off }
    exec c s = .next ((used.setChannel d bound).readied c.frame .ok [])

/-- UNBIND CHANNEL withdraws the channel's requests into its deferred quantities (as UsageChargeCompletes says) and
unbinds it; it charges them, import before export (as ChargeQuantityApplies says), on a sound account and discards them
on a DAMAGED one; a number above 7 and an UNBOUND channel are refused. The order of the fields of its answer, and that a
binding or uses count of 0, which no run meets there, stays at 0, are the model's choices (R58, R64, R65; logs 14 and
26). -/
def Obligations.UnbindChannelCompletes : Prop :=
  (∀ (s : State) (tag number : Byte),
    let c := Instr.unbindChannel tag number
    s.atBlock c →
    (7 < number.toNat → exec c s = .next (s.readied c.frame .badArgument [])) ∧
    (∀ d : Chan, number = BitVec.ofNat 8 d.val → (s.channel d).state = .unbound →
      exec c s = .next (s.readied c.frame .wrongState []))) ∧
  ∀ (s : State) (tag : Byte) (d : Chan),
    let c := Instr.unbindChannel tag (BitVec.ofNat 8 d.val)
    let slot := (s.channel d).slot
    let withdrawn (u : State) : State := u.setChannel d (u.channel d).withdraw
    let lowered (t : TariffIdx) (u : State) : State := u.setTariff t { u.tariff t with uses := (u.tariff t).uses - 1 }
    let unbound (u : State) : State :=
      let ch := u.channel d
      let v := lowered ch.importTariff (u.stopDrawing d)
      let w := if ch.exportTariff = ch.importTariff then v else lowered ch.exportTariff v
      w.setChannel d
        { w.channel d with
          state := .unbound, slot := 0, importTariff := 0, exportTariff := 0, sync := none, drawing := none,
          deferredImport := 0, deferredExport := 0, permit := .off, graceRemaining := 0, emptyMark := false }
    (∀ u : State, u.unbindChannel d = unbound u) ∧
    (s.atBlock c → (s.channel d).state ≠ .unbound → s.sound slot →
      let u := withdrawn s
      let charged := u.chargeBoth d
      let counted := charged.1.setAccount slot
        { charged.1.account slot with bindingCount := (charged.1.account slot).bindingCount - 1 }
      exec c s = .next ((unbound counted).readied c.frame .ok
        (leBytes 4 (u.channel d).deferredImport ++ leBytes 6 charged.2.1 ++ leBytes 4 (u.channel d).deferredExport
          ++ leBytes 6 charged.2.2 ++ [0x00]))) ∧
    (s.atBlock c → (s.channel d).state ≠ .unbound → s.mapState slot = .damaged ∨ s.mismatched slot →
      let u := withdrawn (if s.mapState slot = .damaged then s else s.damage slot)
      let gone := unbound u
      let counted := gone.setAccount slot
        { gone.account slot with bindingCount := gone.channels.toList.countP (Channel.boundTo slot) }
      exec c s = .next (counted.readied c.frame .ok
        (leBytes 4 (u.channel d).deferredImport ++ leBytes 4 (u.channel d).deferredExport ++ [0x01])))

/-- RESYNC CHANNEL, READ CHANNEL and SET CHANNEL OPTIONS, and what they refuse (R66 to R68, R98, R176). -/
def Obligations.ChannelCommandsComplete : Prop :=
  (∀ (s : State) (tag number clear grace timeout auto cut : Byte),
    let resync := Instr.resyncChannel tag number
    let read := Instr.readChannel tag number clear
    let options := Instr.setChannelOptions tag number grace timeout auto cut
    (s.atBlock resync → 7 < number.toNat → exec resync s = .next (s.readied resync.frame .badArgument [])) ∧
    (s.atBlock resync → ∀ d : Chan, number = BitVec.ofNat 8 d.val → (s.channel d).state = .unbound →
      exec resync s = .next (s.readied resync.frame .wrongState [])) ∧
    (s.atBlock read → 7 < number.toNat ∨ (clear ≠ 0 ∧ clear ≠ 1) →
      exec read s = .next (s.readied read.frame .badArgument [])) ∧
    (s.atBlock options → 7 < number.toNat ∨ (auto ≠ 0 ∧ auto ≠ 1) ∨ (cut ≠ 0 ∧ cut ≠ 1) →
      exec options s = .next (s.readied options.frame .badArgument []))) ∧
  ∀ (s : State) (tag : Byte) (d : Chan),
    let ch := s.channel d
    let number := BitVec.ofNat 8 d.val
    (s.atBlock (.resyncChannel tag number) → ch.state ≠ .unbound →
      let cleared := { ch with sync := none, tamper := false, silenceCounter := ch.silenceTimeout, silent := false }
      exec (.resyncChannel tag number) s = .next
        ((s.setChannel d (if ch.silent then cleared.evaluate else cleared)).readied
          (Instr.resyncChannel tag number).frame .ok [])) ∧
    (∀ clear : Byte, s.atBlock (.readChannel tag number clear) → clear = 0 ∨ clear = 1 →
      exec (.readChannel tag number clear) s = .next
        ((if clear = 0 then s
          else s.setChannel d { ch with framesTaken := 0, badFrames := 0, duplicates := 0, missed := 0, stray := 0 }).readied
          (Instr.readChannel tag number clear).frame .ok
          ([ch.state.code, BitVec.ofNat 8 ch.slot.val, BitVec.ofNat 8 ch.importTariff.val, BitVec.ofNat 8 ch.exportTariff.val,
            syncByte ch.sync] ++ leBytes 4 ch.deferredImport ++ leBytes 4 ch.deferredExport
            ++ leBytes 2 (handleValue ch.drawing) ++ [BitVec.ofNat 8 ch.grace, BitVec.ofNat 8 ch.silenceTimeout,
            BitVec.ofNat 8 ch.silenceCounter, BitVec.ofNat 8 (flagByte [ch.drawing.isSome, ch.autoRestore, ch.silentCut,
              ch.silent, ch.tamper, ch.cutLatch, ch.hostCut])]
            ++ leBytes 2 ch.framesTaken.toNat ++ [BitVec.ofNat 8 ch.badFrames, BitVec.ofNat 8 ch.duplicates,
            BitVec.ofNat 8 ch.missed, BitVec.ofNat 8 ch.stray, ch.permit.code, BitVec.ofNat 8 ch.graceRemaining]))) ∧
    (∀ grace timeout auto cut : Byte,
      let c := Instr.setChannelOptions tag number grace timeout auto cut
      s.atBlock c → auto = 0 ∨ auto = 1 → cut = 0 ∨ cut = 1 →
      let set := { ch with
        grace := grace.toNat, silenceTimeout := timeout.toNat, autoRestore := auto = 1, silentCut := cut = 1,
        silenceCounter := if ch.state = .unbound then ch.silenceCounter else timeout.toNat }
      exec c s = .next ((s.setChannel d (if ch.silentCut = decide (cut = 1) then set else set.evaluate)).readied c.frame .ok
        [BitVec.ofNat 8 ch.grace, BitVec.ofNat 8 ch.silenceTimeout, if ch.autoRestore then 0x01 else 0x00,
          if ch.silentCut then 0x01 else 0x00]))

/-- A complete report frame in RUN and in STARTING: a bad one is counted, one on an UNBOUND channel is a stray, a distance
of 0 is a duplicate, and any other is taken, with a gap for a distance of 2 or more; a LIVE channel issues a request, a
PARKED one defers the quantity; a permit is evaluated for the clearing of SILENT in RUN alone, and is held in STARTING. The
receiver's rows; and without VDD nothing is received. That a receiver hunts or assembles, and what its rows do to the two,
is the model's reading (R44 to R47, R51 to R54, R57, R69, R102, R160, R174; log 10). -/
def Obligations.ReportRowsComplete : Prop :=
  ∀ (s : State) (d : Chan) (lineSeq q0 q1 q2 flags check : Byte),
    let c := Instr.reportFrame d lineSeq q0 q1 q2 flags check
    let ch := s.channel d
    let raise (bit : BitVec 16) (x : Channel) : Channel := { x with notice := { x.notice with pending := x.notice.pending ||| bit } }
    let heardAgain (x : Channel) : Channel :=
      let reloaded := { x with silenceCounter := ch.silenceTimeout, silent := false }
      if ch.silent = true ∧ s.phase = .run then reloaded.evaluate else reloaded
    let bad := raise Cause.badFrame { ch with badFrames := min (ch.badFrames + 1) 255, receiver := .hunting }
    let good := crc8 0xFF [lineSeq, q0, q1, q2, flags] = check ∧ lineSeq.toNat / 16 = d.val ∧ flags &&& 0xFC = 0
    let seq : Fin 16 := Fin.ofNat 16 (lineSeq.toNat % 16)
    let quantity := q0.toNat + 256 * q1.toNat + 65536 * q2.toNat
    let flow := if flags.getLsbD 0 then Flow.exp else Flow.imp
    (s.phase = .run ∨ s.phase = .starting →
      (¬good → exec c s = .next (s.setChannel d bad)) ∧
      (good → ch.state = .unbound →
        exec c s = .next (s.setChannel d (raise Cause.stray { ch with stray := min (ch.stray + 1) 255, receiver := .hunting }))) ∧
      (good → ch.state ≠ .unbound → ch.sync = some seq →
        let counted := raise Cause.duplicate { ch with duplicates := min (ch.duplicates + 1) 255, receiver := .hunting }
        exec c s = .next (s.setChannel d (heardAgain counted))) ∧
      (good → ch.state ≠ .unbound → ch.sync ≠ some seq →
        let skipped : Nat := match ch.sync with
          | none => 0
          | some last => (seq - last).val - 1
        let counted := { ch with receiver := .hunting, sync := some seq, framesTaken := ch.framesTaken + 1 }
        let gapped := if 1 ≤ skipped then raise Cause.gap { counted with missed := min (ch.missed + skipped) 255 } else counted
        let heard := heardAgain gapped
        let latched := if flags.getLsbD 1 then raise Cause.tamper { heard with tamper := true } else heard
        exec c s = .next (s.setChannel d
          (if ch.state = .live then { latched with requests := ch.requests ++ [⟨flow, quantity⟩] }
           else latched.defer flow quantity))) ∧
      exec (.frameSync d) s = .next (s.setChannel d { ch with receiver := .assembling }) ∧
      (ch.receiver = .assembling → exec (.frameGapTimeout d) s = .next (s.setChannel d bad) ∧
        exec (.framingMarkAbandon d) s = .next (s.setChannel d bad)) ∧
      (ch.receiver = .hunting → exec (.frameGapTimeout d) s = .next s ∧ exec (.framingMarkAbandon d) s = .next s)) ∧
    (s.phase = .retain ∨ s.phase = .off →
      exec c s = .next s ∧ exec (.frameSync d) s = .next s ∧ exec (.frameGapTimeout d) s = .next s ∧
        exec (.framingMarkAbandon d) s = .next s)

/-- A usage-charge request is taken on the state it finds: charged on an OPEN account, deferred on a FROZEN one, and
deferred with its channel PARKED on a DAMAGED one; a deferred quantity stops at 2^32 - 1 with DEFER_SATURATED raised; and a
withdrawal defers the untaken requests in the order issued until none is left. That the row takes the oldest request, and
that a quantity of 0 added at 2^32 - 1 raises nothing, are the model's choices (R55, R57, R58, R148; logs 11 and 29). -/
def Obligations.UsageChargeCompletes : Prop :=
  (∀ (s : State) (d : Chan) (r : UsageRequest) (rest : List UsageRequest),
    let ch := s.channel d
    let taken := s.setChannel d { ch with requests := rest }
    let deferred (u : State) : State := u.setChannel d ((u.channel d).defer r.flow r.quantity)
    s.phase = .run → ch.requests = r :: rest → ch.state ≠ .unbound →
    (s.sound ch.slot → (s.account ch.slot).state = .opened →
      exec (.usageCharge d) s = .next (taken.chargeQuantity d r.flow r.quantity).1) ∧
    (s.sound ch.slot → (s.account ch.slot).state = .frozen → exec (.usageCharge d) s = .next (deferred taken)) ∧
    (s.mapState ch.slot = .damaged ∨ s.mismatched ch.slot →
      let found := if s.mapState ch.slot = .damaged then taken else taken.damage ch.slot
      exec (.usageCharge d) s = .next (deferred (found.setChannel d ((found.channel d).park true))))) ∧
  (∀ (ch : Channel) (q : Nat),
    let saturated (x : Channel) : Channel :=
      { x with notice := { x.notice with pending := x.notice.pending ||| Cause.deferSaturated } }
    (ch.deferredImport + q ≤ 4294967295 → ch.defer .imp q = { ch with deferredImport := ch.deferredImport + q }) ∧
    (4294967295 < ch.deferredImport + q → ch.defer .imp q = saturated { ch with deferredImport := 4294967295 }) ∧
    (ch.deferredExport + q ≤ 4294967295 → ch.defer .exp q = { ch with deferredExport := ch.deferredExport + q }) ∧
    (4294967295 < ch.deferredExport + q → ch.defer .exp q = saturated { ch with deferredExport := 4294967295 })) ∧
  (∀ ch : Channel,
    (ch.requests = [] → ch.withdraw = ch) ∧
    ∀ r rest, ch.requests = r :: rest → ch.withdraw = (({ ch with requests := rest }).defer r.flow r.quantity).withdraw)

/-- A charge in its direction: nothing for a charge of zero; a clamped credit for an export; a usage debit for an import,
paid first from the drawing hold, which is spent when nothing of it is left; then the settle sequence. The two deferred
quantities of a channel are charged import before export, each returned to zero as it is charged. That a drawing hold that
is not honoured pays nothing, and that the part paid from a hold is not clamped at -2^39, are the model's choices (R36 to
R39, R83, R84; logs 26 and 28). -/
def Obligations.ChargeQuantityApplies : Prop :=
  (∀ (s : State) (d : Chan) (q : Nat),
    let ch := s.channel d
    let i := ch.slot
    let a := s.account i
    let price (t : TariffIdx) : Nat := (s.tariff t).charge q
    (price ch.importTariff = 0 → s.chargeQuantity d .imp q = (s, 0)) ∧
    (price ch.exportTariff = 0 → s.chargeQuantity d .exp q = (s, 0)) ∧
    (price ch.exportTariff ≠ 0 → s.chargeQuantity d .exp q =
      ((s.setAccount i (a.clampedCredit (price ch.exportTariff))).settle i,
        min (price ch.exportTariff) (a.ceiling - a.balance).toNat)) ∧
    (price ch.importTariff ≠ 0 →
      let n := price ch.importTariff
      ((ch.drawing = none ∨ ∃ h, ch.drawing = some h ∧ s.honoured h = false) →
        s.chargeQuantity d .imp q =
          ((s.setAccount i (a.usageDebit n)).settle i, min n (a.balance + 549755813888).toNat)) ∧
      (∀ h, ch.drawing = some h → s.honoured h = true →
        let e := s.hold h.idx
        let drawn := min n e.amount
        let paid := (s.setAccount i
            { a with
              balance := a.balance - drawn, charged := min (a.charged + drawn) 281474976710655,
              heldTotal := a.heldTotal - drawn }).setHold h.idx
          { e with amount := e.amount - drawn }
        (n < e.amount → s.chargeQuantity d .imp q = (paid.settle i, n)) ∧
        (e.amount ≤ n →
          let spent := (paid.freeHold i h.idx).raiseAccount i Cause.holdSpent
          let rest := n - e.amount
          (rest = 0 → s.chargeQuantity d .imp q = (spent.settle i, n)) ∧
          (rest ≠ 0 → s.chargeQuantity d .imp q =
            ((spent.setAccount i ((spent.account i).usageDebit rest)).settle i,
              e.amount + min rest ((spent.account i).balance + 549755813888).toNat)))))) ∧
  ∀ (s : State) (d : Chan),
    let ch := s.channel d
    let imp := s.chargeDeferred d .imp
    let out := imp.1.chargeDeferred d .exp
    imp = (s.setChannel d { ch with deferredImport := 0 }).chargeQuantity d .imp ch.deferredImport ∧
    s.chargeDeferred d .exp = (s.setChannel d { ch with deferredExport := 0 }).chargeQuantity d .exp ch.deferredExport ∧
    s.chargeBoth d = (out.1, imp.2, out.2) ∧
    (imp.1.channel d).deferredImport = 0 ∧ (imp.1.channel d).deferredExport = ch.deferredExport ∧
    (out.1.channel d).deferredImport = 0 ∧ (out.1.channel d).deferredExport = 0

/-! The Hold Table. -/

/-- PLACE HOLD takes the lowest FREE entry, puts it youngest in the account's list, raises the held total and settles; the
response carries the handle and whether the hold stands; and its refusals, in order (R71, R74, R75). -/
def Obligations.PlaceHoldCompletes : Prop :=
  (∀ (s : State) (tag : Byte) (slot : Slot) (amount : BitVec 32) (lifetime : BitVec 16) (h : HoldIdx),
    let c := Instr.placeHold tag slot amount lifetime
    let a := s.account slot
    let n := amount.toNat
    let gen := (s.hold h).generation
    s.atBlock c → s.sound slot → a.state = .opened → a.kind = .consumer → 1 ≤ n → n ≤ 2147483647 →
    (n : Int) ≤ a.balance - a.heldTotal - a.floor → a.holdList.length < 8 →
    (s.hold h).held = false → (∀ k < h, (s.hold k).held = true) →
    let placed := (s.setHold h ⟨true, gen, slot, n, lifetime.toNat, false, none⟩).setAccount slot
      { a with holdList := a.holdList ++ [h], heldTotal := a.heldTotal + n }
    let t := placed.settle slot
    let stands := (t.hold h).held ∧ (t.hold h).generation = gen
    exec c s = .next (t.readied c.frame .ok (leBytes 2 (gen.val * 64 + h.val) ++ [if stands then 0x00 else 0x01]))) ∧
  (∀ (s : State) (tag : Byte) (slot : Slot) (amount : BitVec 32) (lifetime : BitVec 16),
    let c := Instr.placeHold tag slot amount lifetime
    let a := s.account slot
    let n := amount.toNat
    let refused (st : Status) : Prop := exec c s = .next (s.readied c.frame st [])
    s.atBlock c → s.sound slot →
    (a.state = .frozen → refused .wrongState) ∧
    (a.state = .opened →
      (n = 0 ∨ 2147483647 < n → refused .badArgument) ∧
      (1 ≤ n → n ≤ 2147483647 →
        (a.kind ≠ .consumer → refused .wrongKind) ∧
        (a.kind = .consumer →
          (a.balance - a.heldTotal - a.floor < n → refused .insufficient) ∧
          ((n : Int) ≤ a.balance - a.heldTotal - a.floor →
            (8 ≤ a.holdList.length → refused .accountHoldsFull) ∧
            (a.holdList.length < 8 → (∀ h, (s.hold h).held = true) → refused .holdsFull))))))

/-- CAPTURE HOLD debits the captured amount, frees the hold and settles; RELEASE HOLD frees it and settles; a handle that is
not honoured is answered HOLD_GONE, and a mismatch DAMAGED; and when a handle is honoured. That CAPTURE HOLD answers the
amount it asked for is the model's reading (R71, R73, R76, R77; log 17). -/
def Obligations.CaptureAndReleaseHoldComplete : Prop :=
  ∀ (s : State) (tag : Byte) (handle : BitVec 16) (amount : BitVec 32),
    let cap := Instr.captureHold tag handle amount
    let rel := Instr.releaseHold tag handle
    let h := Handle.ofWord handle
    let e := s.hold h.idx
    let a := s.account e.slot
    let n := amount.toNat
    (h.idx.val = handle.toNat % 64 ∧ h.gen.val = handle.toNat / 64 ∧
      (s.honoured h = true ↔ e.held = true ∧ e.generation = h.gen)) ∧
    (s.honoured h = true → s.sound e.slot →
      (s.atBlock cap → n ≤ 2147483647 → n ≤ e.amount →
        let moved := if n = 0 then s else s.setAccount e.slot (a.usageDebit n)
        let t := (moved.freeHold e.slot h.idx).settle e.slot
        exec cap s = .next (t.readied cap.frame .ok
          (leBytes 4 n ++ leBytes 4 (e.amount - n) ++ leBytes 5 (BitVec.ofInt 40 (t.account e.slot).balance).toNat))) ∧
      (s.atBlock cap → 2147483647 < n ∨ e.amount < n → exec cap s = .next (s.readied cap.frame .badArgument [])) ∧
      (s.atBlock rel → exec rel s =
        .next (((s.freeHold e.slot h.idx).settle e.slot).readied rel.frame .ok (leBytes 4 e.amount)))) ∧
    (s.honoured h = true → s.mismatched e.slot →
      (s.atBlock cap → exec cap s = .next ((s.damage e.slot).readied cap.frame .damaged [])) ∧
      (s.atBlock rel → exec rel s = .next ((s.damage e.slot).readied rel.frame .damaged []))) ∧
    (s.honoured h = false →
      (s.atBlock cap → exec cap s = .next (s.readied cap.frame .holdGone [])) ∧
      (s.atBlock rel → exec rel s = .next (s.readied rel.frame .holdGone [])))

/-- READ HOLD and LIST HOLDS answer and change nothing; DRAW HOLD ties a bound channel and a hold of its account together,
END DRAW parts them; and the refusals of the first, third and fourth, DAMAGED for a DRAW HOLD whose read finds a mismatch
among them. What END DRAW does to a drawing hold that is no longer honoured is the model's choice (R82, R85, R88, R89; log
26). -/
def Obligations.HoldReadsAndDrawingComplete : Prop :=
  ∀ (s : State) (tag : Byte) (handle : BitVec 16) (slot : Slot) (d : Chan),
    let h := Handle.ofWord handle
    let e := s.hold h.idx
    let number := BitVec.ofNat 8 d.val
    (s.atBlock (.readHold tag handle) → s.honoured h = true →
      exec (.readHold tag handle) s = .next (s.readied (Instr.readHold tag handle).frame .ok
        ([BitVec.ofNat 8 e.slot.val] ++ leBytes 4 e.amount ++ leBytes 2 e.lifetime
          ++ [if e.expiryDue then 0x01 else 0x00, if e.drawnBy.isSome then 0x01 else 0x00,
              BitVec.ofNat 8 (match e.drawnBy with | some x => x.val | none => 0)]))) ∧
    (s.atBlock (.listHolds tag slot) → s.sound slot →
      let l := (s.account slot).holdList
      exec (.listHolds tag slot) s = .next (s.readied (Instr.listHolds tag slot).frame .ok
        ([BitVec.ofNat 8 l.length] ++
          (l.map (fun k => leBytes 2 ((s.hold k).generation.val * 64 + k.val) ++ leBytes 4 (s.hold k).amount)).flatten))) ∧
    (s.atBlock (.drawHold tag number handle) → s.honoured h = true → s.sound e.slot →
      (s.channel d).state ≠ .unbound → (s.channel d).slot = e.slot → (s.channel d).drawing = none → e.drawnBy = none →
      exec (.drawHold tag number handle) s = .next
        (((s.setChannel d { s.channel d with drawing := some h }).setHold h.idx { e with drawnBy := some d }).readied
          (Instr.drawHold tag number handle).frame .ok [])) ∧
    (s.atBlock (.drawHold tag number handle) → s.honoured h = true → s.sound e.slot →
      let refused (st : Status) : Prop :=
        exec (.drawHold tag number handle) s = .next (s.readied (Instr.drawHold tag number handle).frame st [])
      ((s.channel d).state = .unbound ∨ (s.channel d).slot ≠ e.slot → refused .badArgument) ∧
      ((s.channel d).state ≠ .unbound → (s.channel d).slot = e.slot →
        ((s.channel d).drawing ≠ none → refused .wrongState) ∧
        ((s.channel d).drawing = none → e.drawnBy ≠ none → refused .inUse))) ∧
    (s.atBlock (.endDraw tag number) →
      ((s.channel d).drawing = none →
        exec (.endDraw tag number) s = .next (s.readied (Instr.endDraw tag number).frame .wrongState [])) ∧
      ∀ g, (s.channel d).drawing = some g →
        let parted := if s.honoured g then s.setHold g.idx { s.hold g.idx with drawnBy := none } else s
        exec (.endDraw tag number) s = .next ((parted.setChannel d { s.channel d with drawing := none }).readied
          (Instr.endDraw tag number).frame .ok (leBytes 2 (g.gen.val * 64 + g.idx.val)))) ∧
    ((s.channel d).drawing = none → s.stopDrawing d = s.setChannel d (s.channel d)) ∧
    (∀ g, (s.channel d).drawing = some g →
      let parted := if s.honoured g then s.setHold g.idx { s.hold g.idx with drawnBy := none } else s
      s.stopDrawing d = parted.setChannel d { s.channel d with drawing := none }) ∧
    (∀ b : Byte, s.atBlock (.drawHold tag b handle) → s.honoured h = true → s.mismatched e.slot →
      exec (.drawHold tag b handle) s =
        .next ((s.damage e.slot).readied (Instr.drawHold tag b handle).frame .damaged [])) ∧
    (∀ b : Byte, 7 < b.toNat →
      (s.atBlock (.drawHold tag b handle) → s.honoured h = true → s.sound e.slot →
        exec (.drawHold tag b handle) s = .next (s.readied (Instr.drawHold tag b handle).frame .badArgument [])) ∧
      (s.atBlock (.endDraw tag b) → exec (.endDraw tag b) s = .next (s.readied (Instr.endDraw tag b).frame .badArgument []))) ∧
    (s.honoured h = false →
      (s.atBlock (.readHold tag handle) →
        exec (.readHold tag handle) s = .next (s.readied (Instr.readHold tag handle).frame .holdGone [])) ∧
      (s.atBlock (.drawHold tag number handle) →
        exec (.drawHold tag number handle) s = .next (s.readied (Instr.drawHold tag number handle).frame .holdGone [])))

/-- Freeing a hold: its index leaves the list, its amount leaves the held total, its channel's drawing ends, and the entry is
FREE with its generation raised by one modulo 1024 (R72). -/
def Obligations.FreeingOfAHold : Prop :=
  ∀ (s : State) (i : Slot) (h : HoldIdx),
    let e := s.hold h
    let t := s.freeHold i h
    (∀ j, t.account j =
      if j = i then
        { s.account i with
          holdList := (s.account i).holdList.erase h, heldTotal := (s.account i).heldTotal - e.amount, syndrome := 0 }
      else s.account j) ∧
    (∀ k, t.hold k = if k = h then ⟨false, e.generation + 1, 0, 0, 0, false, none⟩ else s.hold k) ∧
    (∀ d, t.channel d = if e.drawnBy = some d then { s.channel d with drawing := none } else s.channel d) ∧
    t = { s with accounts := t.accounts, holds := t.holds, channels := t.channels }

/-- The Account Table takes an expiry request: the hold of an honoured handle is freed, HOLD_EXPIRED raised and the account
settled; a handle no longer honoured, or an account found damaged, gives no expiry; HOLD_LIFETIME_EXPIRY is the last second
of one lifetime (R78, R79; log 8). -/
def Obligations.HoldExpiryRowsComplete : Prop :=
  ∀ (s : State) (h : Handle), s.phase = .run →
    (h ∈ s.expiryRequests →
      let taken := { s with expiryRequests := s.expiryRequests.erase h }
      let i := (s.hold h.idx).slot
      (s.honoured h = false → exec (.holdExpiry h) s = .next taken) ∧
      (s.honoured h = true → s.sound i →
        exec (.holdExpiry h) s = .next (((taken.freeHold i h.idx).raiseAccount i Cause.holdExpired).settle i)) ∧
      (s.honoured h = true → s.mismatched i → exec (.holdExpiry h) s = .next (taken.damage i))) ∧
    (s.refPresent = true → (s.hold h.idx).held = true → (s.hold h.idx).expiryDue = false → (s.hold h.idx).lifetime = 1 →
      exec (.holdLifetimeExpiry h.idx) s = .next
        { s.setHold h.idx { s.hold h.idx with lifetime := 0, expiryDue := true } with
          expiryRequests := s.expiryRequests ++ [⟨(s.hold h.idx).generation, h.idx⟩] })

/-! The Permit Unit. -/

/-- RESTORE PERMIT clears the latch and the marker and evaluates; CUT PERMIT sets the marker and turns the permit OFF; a
number above 7 and an UNBOUND channel are refused (R100, R101). -/
def Obligations.PermitCommandsComplete : Prop :=
  ∀ (s : State) (tag : Byte) (d : Chan),
    let ch := s.channel d
    let number := BitVec.ofNat 8 d.val
    let restore := Instr.restorePermit tag number
    let cut := Instr.cutPermit tag number
    (s.atBlock restore → ch.state ≠ .unbound →
      let after := ({ ch with cutLatch := false, hostCut := false }).evaluate
      exec restore s = .next ((s.setChannel d after).readied restore.frame .ok
        [after.permit.code, if ch.cutLatch then 0x01 else 0x00, if ch.hostCut then 0x01 else 0x00,
          if ch.emptyMark then 0x01 else 0x00])) ∧
    (s.atBlock cut → ch.state ≠ .unbound →
      exec cut s = .next ((s.setChannel d { ch with hostCut := true, permit := .off, graceRemaining := 0 }).readied
        cut.frame .ok [ch.permit.code])) ∧
    (s.atBlock restore → ch.state = .unbound → exec restore s = .next (s.readied restore.frame .wrongState [])) ∧
    (s.atBlock cut → ch.state = .unbound → exec cut s = .next (s.readied cut.frame .wrongState [])) ∧
    (∀ b : Byte, 7 < b.toNat →
      (s.atBlock (.restorePermit tag b) →
        exec (.restorePermit tag b) s = .next (s.readied (Instr.restorePermit tag b).frame .badArgument [])) ∧
      (s.atBlock (.cutPermit tag b) →
        exec (.cutPermit tag b) s = .next (s.readied (Instr.cutPermit tag b).frame .badArgument [])))

/-- Evaluation of a channel's permit, row by row (R91, R93). -/
def Obligations.PermitEvaluation : Prop :=
  ∀ ch : Channel,
    let silencedOff : Prop := ch.silentCut = true ∧ ch.silent = true
    let barred : Prop := ch.state ≠ .live ∨ ch.cutLatch = true ∨ ch.hostCut = true ∨ silencedOff
    let eligible : Prop := ch.state = .live ∧ ch.emptyMark = false ∧ ch.cutLatch = false ∧ ch.hostCut = false ∧ ¬silencedOff
    (ch.state = .unbound → ch.evaluate = ch) ∧
    (ch.state ≠ .unbound →
      (ch.permit = .off → eligible → ch.evaluate = { ch with permit := .on }) ∧
      (ch.permit = .off → ¬eligible → ch.evaluate = ch) ∧
      (ch.permit = .on ∨ ch.permit = .grace → barred → ch.evaluate = { ch with permit := .off, graceRemaining := 0 }) ∧
      (ch.permit = .on → ¬barred → ch.emptyMark = true → ch.evaluate = ch.emptyEntered) ∧
      (ch.permit = .on → ¬barred → ch.emptyMark = false → ch.evaluate = ch) ∧
      (ch.permit = .grace → ¬barred → ch.emptyMark = true → ch.evaluate = ch) ∧
      (ch.permit = .grace → ¬barred → ch.emptyMark = false →
        ch.evaluate = { ch with permit := .on, graceRemaining := 0 }))

/-- "EMPTY entered" and "EMPTY left" on a bound channel: grace, a cut, or nothing; and the end of grace, or an evaluation
after auto restore has cleared a latch; during the start check "EMPTY left" makes no evaluation (R94, R95, R99, R103). -/
def Obligations.EmptyEvents : Prop :=
  ∀ ch : Channel,
    let marked := { ch with emptyMark := true }
    let cleared := { ch with emptyMark := false }
    (ch.permit = .on → 0 < ch.grace → ch.emptyEntered = { marked with permit := .grace, graceRemaining := ch.grace }) ∧
    (ch.permit = .on → ch.grace = 0 → ch.emptyEntered =
      { marked with
        permit := .off, graceRemaining := 0, cutLatch := true,
        notice := { ch.notice with pending := ch.notice.pending ||| Cause.cut } }) ∧
    (ch.permit = .grace ∨ ch.permit = .off → ch.emptyEntered = marked) ∧
    (ch.permit = .grace → ch.emptyLeft true = { cleared with permit := .on, graceRemaining := 0 }) ∧
    (ch.permit = .on → ch.emptyLeft true = cleared) ∧
    (ch.permit = .off → ch.autoRestore = true → ch.emptyLeft true = ({ cleared with cutLatch := false }).evaluate) ∧
    (ch.permit = .off → ch.autoRestore = false → ch.emptyLeft true = cleared.evaluate) ∧
    (ch.permit = .grace → ch.emptyLeft false = { cleared with permit := .on, graceRemaining := 0 }) ∧
    (ch.permit = .on → ch.emptyLeft false = cleared) ∧
    (ch.permit = .off → ch.autoRestore = true → ch.emptyLeft false = { cleared with cutLatch := false }) ∧
    (ch.permit = .off → ch.autoRestore = false → ch.emptyLeft false = cleared)

/-- A permit output is high exactly when the phase is RUN and the permit state is ON or GRACE; with the relation of R92 its
channel is then LIVE. -/
def Obligations.PermitOutput : Prop :=
  ∀ (s : State) (c : Chan),
    (s.pmt c = true ↔ s.phase = .run ∧ ((s.channel c).permit = .on ∨ (s.channel c).permit = .grace)) ∧
    (s.permitWf → s.pmt c = true → (s.channel c).state = .live)

/-! Time. -/

/-- A second event: lifetimes counted and expiry requests issued, grace counted and cut, silence counted and told; a period
of REFCK on an empty queue issues it at the 32,768th. Where a grace ends in the event in which SILENT cuts, either order of
the two is allowed, and a counter of the model's own tells the events apart. That a step on an empty queue is one period,
that SECOND_EVENT changes nothing outside RUN or without the reference, and that counter are the model's choices (R59, R78,
R96, R153; logs 2, 4 and 9). -/
def Obligations.SecondEventCompletes : Prop :=
  (∀ s : State, s.phase = .run → s.refPresent = true → ∃ t, exec .secondEvent s = .next t ∧
    (∀ h, t.hold h = (let e := s.hold h
      if e.held = true ∧ e.expiryDue = false ∧ 0 < e.lifetime then
        { e with lifetime := e.lifetime - 1, expiryDue := decide (e.lifetime = 1) }
      else e)) ∧
    (∃ due : List Handle, t.expiryRequests = s.expiryRequests ++ due ∧ ∀ g, g ∈ due ↔
      (s.hold g.idx).held = true ∧ (s.hold g.idx).expiryDue = false ∧ (s.hold g.idx).lifetime = 1 ∧
        (s.hold g.idx).generation = g.gen) ∧
    (∀ d, t.channel d = (s.channel d).graceTick.silenceTick ∨ t.channel d = (s.channel d).silenceTick.graceTick) ∧
    t = { s with
          holds := t.holds, expiryRequests := t.expiryRequests, channels := t.channels, divider := 0,
          choice := s.choice + 1 }) ∧
  (∀ s : State, s.phase ≠ .run ∨ s.refPresent = false → exec .secondEvent s = .next s) ∧
  (∀ s : State, s.pending = [] →
    (s.phase = .run → s.refPresent = true → s.divider < 32767 → step s = .next { s with divider := s.divider + 1 }) ∧
    (s.phase = .run → s.refPresent = true → 32767 ≤ s.divider → step s = exec .secondEvent s) ∧
    (s.phase ≠ .run ∨ s.refPresent = false → step s = .next s))

/-- One second on a channel: grace counted down and cut at 0; silence counted down, SILENT set and raised at 0 and told to
the Permit Unit; with the rows for the last second of each, and the loss and return of the reference (R59, R96, R98, R154;
log 8). -/
def Obligations.TimerAndReferenceRowsComplete : Prop :=
  (∀ ch : Channel,
    (ch.permit = .grace → 2 ≤ ch.graceRemaining → ch.graceTick = { ch with graceRemaining := ch.graceRemaining - 1 }) ∧
    (ch.permit = .grace → ch.graceRemaining ≤ 1 → ch.graceTick =
      { ch with
        permit := .off, graceRemaining := 0, cutLatch := true,
        notice := { ch.notice with pending := ch.notice.pending ||| Cause.cut } }) ∧
    (ch.permit ≠ .grace → ch.graceTick = ch) ∧
    (ch.state ≠ .unbound → 0 < ch.silenceTimeout → 2 ≤ ch.silenceCounter →
      ch.silenceTick = { ch with silenceCounter := ch.silenceCounter - 1 }) ∧
    (ch.state ≠ .unbound → 0 < ch.silenceTimeout → ch.silenceCounter = 1 → ch.silenceTick =
      ({ ch with
          silenceCounter := 0, silent := true,
          notice := { ch.notice with pending := ch.notice.pending ||| Cause.silent } } : Channel).evaluate) ∧
    (ch.state = .unbound ∨ ch.silenceTimeout = 0 ∨ ch.silenceCounter = 0 → ch.silenceTick = ch)) ∧
  (∀ (s : State) (d : Chan), s.phase = .run → s.refPresent = true →
    ((s.channel d).permit = .grace → (s.channel d).graceRemaining ≤ 1 →
      exec (.graceExpiry d) s = .next (s.setChannel d (s.channel d).graceTick)) ∧
    ((s.channel d).silenceCounter = 1 →
      exec (.silenceTimeout d) s = .next (s.setChannel d (s.channel d).silenceTick))) ∧
  (∀ s : State, s.phase = .run ∨ s.phase = .starting →
    (s.refPresent = true → exec .referenceLost s = .next
      { s with refPresent := false, faults := { s.faults with pending := s.faults.pending ||| Cause.timeBaseLost } }) ∧
    exec .referenceReturned s = .next { s with refPresent := true })

/-! The Refill Unit. -/

/-- SET REFILL replaces the specification, lowering the dependents of the old pool and raising those of the new; CLEAR
REFILL removes it; the refusals of both, in order; a dependents count falls by one on a sound pool, and is counted anew
on a DAMAGED one; and how a record's specification is removed. That SET REFILL answers zeros for an absent specification
and the dependents in one byte, that a recount reads the other records unverified, and that a count of 0 stays at 0, are
the model's choices (R105 to R108; logs 13, 15, 31 and 33). -/
def Obligations.RefillCommandsComplete : Prop :=
  (∀ (s : State) (tag : Byte) (slot pool : Slot) (amount : BitVec 32) (count : Byte),
    let set := Instr.setRefill tag slot pool amount count
    let clear := Instr.clearRefill tag slot
    let a := s.account slot
    let refused (st : Status) : Prop := exec set s = .next (s.readied set.frame st [])
    s.sound slot → a.state = .opened ∨ a.state = .frozen →
    (s.atBlock set →
      (amount.toNat = 0 ∨ 2147483647 < amount.toNat → refused .badArgument) ∧
      (1 ≤ amount.toNat → amount.toNat ≤ 2147483647 →
        (a.kind ≠ .consumer → refused .wrongKind) ∧
        (a.kind = .consumer →
          (s.mapState pool = .free → refused .notFound) ∧
          (s.mapState pool = .damaged → refused .damaged) ∧
          (s.mismatched pool → exec set s = .next ((s.damage pool).readied set.frame .damaged [])) ∧
          (s.sound pool → (s.account pool).kind ≠ .pool → refused .wrongKind) ∧
          (s.sound pool → (s.account pool).kind = .pool → (s.account pool).state = .retired → refused .wrongState)))) ∧
    (s.atBlock clear → a.kind ≠ .consumer → exec clear s = .next (s.readied clear.frame .wrongKind []))) ∧
  (∀ (s : State) (tag : Byte) (slot pool : Slot) (amount : BitVec 32) (count : Byte),
    let set := Instr.setRefill tag slot pool amount count
    let clear := Instr.clearRefill tag slot
    let a := s.account slot
    s.sound slot → a.state = .opened ∨ a.state = .frozen → a.kind = .consumer →
    (s.atBlock set → 1 ≤ amount.toNat → amount.toNat ≤ 2147483647 → s.sound pool → (s.account pool).kind = .pool →
      (s.account pool).state = .opened ∨ (s.account pool).state = .frozen →
      let bare := match a.refill with
        | none => s
        | some r => (s.setAccount slot { a with refill := none }).lowerDependents r.pool
      let specified := bare.setAccount slot { bare.account slot with refill := some ⟨pool, amount.toNat, count.toNat⟩ }
      let t := specified.setAccount pool
        { specified.account pool with dependents := (specified.account pool).dependents + 1 }
      exec set s = .next (t.readied set.frame .ok
        (leBytes 1 (refillFields a.refill).1 ++ leBytes 4 (refillFields a.refill).2.1 ++ leBytes 1 (refillFields a.refill).2.2
          ++ [BitVec.ofNat 8 (t.account pool).dependents]))) ∧
    (s.atBlock clear → ∀ r, a.refill = some r →
      exec clear s = .next (((s.setAccount slot { a with refill := none }).lowerDependents r.pool).readied clear.frame .ok
        (leBytes 1 r.pool.val ++ leBytes 4 r.amount ++ leBytes 1 r.count))) ∧
    (s.atBlock clear → a.refill = none → exec clear s = .next (s.readied clear.frame .wrongState []))) ∧
  (∀ (s : State) (p : Slot),
    (s.sound p → s.lowerDependents p = s.setAccount p { s.account p with dependents := (s.account p).dependents - 1 }) ∧
    (s.mapState p = .damaged ∨ s.mismatched p →
      let found := if s.mapState p = .damaged then s else s.damage p
      s.lowerDependents p = found.setAccount p { found.account p with
        dependents := found.accounts.toList.countP (fun a =>
          match a.refill with
          | some r => decide (r.pool = p)
          | none => false) })) ∧
  (∀ (s : State) (i : Slot),
    ((s.account i).refill = none → s.dropRefill i = s) ∧
    ∀ r, (s.account i).refill = some r →
      s.dropRefill i = (s.setAccount i { s.account i with refill := none }).lowerDependents r.pool)

/-- The refill attempt: a transfer that moves one amount from pool to consumer, counts the refill and evaluates the pool; or
a failure that moves nothing; or nothing for want of headroom. That a named record which is no pool is taken by its state
alone is the model's choice (R109 to R113; log 33). -/
def Obligations.RefillAttemptOutcomes : Prop :=
  ∀ (s : State) (i : Slot) (r : RefillSpec),
    let p := s.account r.pool
    let n := min r.amount ((s.account i).ceiling - (s.account i).balance).toNat
    let caused (j : Slot) (cause : BitVec 16) (u : State) : State :=
      let x := u.account j
      u.setAccount j { x with notice := { x.notice with pending := x.notice.pending ||| cause } }
    (s.sound r.pool → p.state = .opened →
      (n = 0 → s.refillAttempt i r = s) ∧
      (n ≠ 0 → p.balance - p.heldTotal - p.floor < n →
        s.refillAttempt i r = caused r.pool Cause.poolShort (caused i Cause.refillFailed s)) ∧
      (n ≠ 0 → (n : Int) ≤ p.balance - p.heldTotal - p.floor →
        let paid := s.setAccount r.pool ({ p with
          balance := p.balance - n, charged := min (p.charged + n) 281474976710655 } : Account).evaluate
        let a := paid.account i
        let credited : Account := { a with balance := a.balance + n, credited := min (a.credited + n) 281474976710655 }
        s.refillAttempt i r = paid.setAccount i
          (if r.count = 255 then credited
           else
            { credited with
              refill := some { r with count := r.count - 1 },
              notice := { a.notice with
                pending := if r.count = 1 then a.notice.pending ||| Cause.refillsSpent else a.notice.pending } }))) ∧
    (s.sound r.pool → p.state ≠ .opened → s.refillAttempt i r = caused i Cause.refillFailed s) ∧
    (s.mapState r.pool = .damaged → s.refillAttempt i r = caused i Cause.refillFailed s) ∧
    (s.mismatched r.pool → s.refillAttempt i r = caused i Cause.refillFailed (s.damage r.pool))

/-! The Sweep Engine. -/

/-- START SWEEP, STOP SWEEP and READ SWEEP (R116, R122, R125). -/
def Obligations.SweepCommandsComplete : Prop :=
  ∀ (s : State) (tag number dir selector start : Byte) (amount : BitVec 32),
    let c := Instr.startSweep tag number dir amount selector start
    let w := s.sweep
    (s.atBlock c → w.state = .idle → number ≠ 0 → dir = 0 ∨ dir = 1 → 1 ≤ amount.toNat → amount.toNat ≤ 2147483647 →
      (∀ n : Fin 16, selector = BitVec.ofNat 8 n.val → exec c s = .next
        (({ s with sweep := ⟨.running, number.toNat, if dir = 0 then .debit else .credit, amount.toNat, .cls n, start.toNat, 0,
            .none, false⟩ } : State).readied c.frame .ok
          ([BitVec.ofNat 8 w.number, w.ending.code] ++ leBytes 2 w.cursor ++ leBytes 2 w.changed))) ∧
      (selector = 0xFF → exec c s = .next
        (({ s with sweep := ⟨.running, number.toNat, if dir = 0 then .debit else .credit, amount.toNat, .all, start.toNat, 0,
            .none, false⟩ } : State).readied c.frame .ok
          ([BitVec.ofNat 8 w.number, w.ending.code] ++ leBytes 2 w.cursor ++ leBytes 2 w.changed)))) ∧
    (s.atBlock c → w.state = .running → exec c s = .next (s.readied c.frame .busy [])) ∧
    (s.atBlock c → w.state = .idle →
      number = 0 ∨ (dir ≠ 0 ∧ dir ≠ 1) ∨ amount.toNat = 0 ∨ 2147483647 < amount.toNat ∨
        (15 < selector.toNat ∧ selector ≠ 0xFF) → exec c s = .next (s.readied c.frame .badArgument [])) ∧
    (s.atBlock (.stopSweep tag) → w.state = .running → exec (.stopSweep tag) s = .next
      (({ s with
          sweep := { w with state := .idle, ending := .stopped },
          device := { s.device with pending := s.device.pending ||| Cause.sweepStopped } } : State).readied
        (Instr.stopSweep tag).frame .ok ([BitVec.ofNat 8 w.number] ++ leBytes 2 w.cursor ++ leBytes 2 w.changed))) ∧
    (s.atBlock (.stopSweep tag) → w.state = .idle →
      exec (.stopSweep tag) s = .next (s.readied (Instr.stopSweep tag).frame .wrongState [])) ∧
    (s.atBlock (.readSweep tag) → exec (.readSweep tag) s = .next (s.readied (Instr.readSweep tag).frame .ok
      ([w.state.code, BitVec.ofNat 8 w.number, w.dir.code] ++ leBytes 4 w.amount ++ [w.selector.code] ++ leBytes 2 w.cursor
        ++ leBytes 2 w.changed ++ [w.ending.code, if w.stopOwed then 0x01 else 0x00])))

/-- A step of a running sweep: applied to a live consumer of the selected class that does not carry the number, skipped
otherwise; the cursor rises, and past slot 255 the sweep ends DONE. That the refill of a step may lower the balance of a
pool that already carries the number is the model's choice (R117 to R119, R121; log 32). -/
def Obligations.SweepStepCompletes : Prop :=
  ∀ s : State, s.phase = .run → s.sweep.state = .running → ∀ i : Slot, s.sweep.cursor = i.val →
    let w := s.sweep
    let a := s.account i
    let selected : Prop := ∀ n, w.selector = .cls n → a.cls = n.val
    let applies : Prop :=
      a.kind = .consumer ∧ (a.state = .opened ∨ a.state = .frozen) ∧ selected ∧ a.lastSweep ≠ w.number
    let advanced (changed : Nat) (u : State) : State :=
      if i.val < 255 then { u with sweep := { w with cursor := i.val + 1, changed := changed } }
      else
        { u with
          sweep := { w with cursor := 256, changed := changed, state := .idle, ending := .done },
          device := { u.device with pending := u.device.pending ||| Cause.sweepDone } }
    (s.sound i → applies →
      let moved : Account := match w.dir with
        | .debit => a.usageDebit w.amount
        | .credit => a.clampedCredit w.amount
      let settled := (s.setAccount i moved).settle i
      let marked := settled.setAccount i { settled.account i with lastSweep := w.number }
      exec .sweepStep s = .next (advanced (w.changed + 1) marked)) ∧
    (s.sound i → ¬applies → exec .sweepStep s = .next (advanced w.changed s)) ∧
    (s.mapState i = .free ∨ s.mapState i = .damaged → exec .sweepStep s = .next (advanced w.changed s)) ∧
    (s.mismatched i → exec .sweepStep s = .next (advanced w.changed (s.damage i)))

/-! The Notice Unit. -/

/-- SET NOTICE, NOTICES ON, NOTICES OFF, READ PENDING and CLEAR CAUSES; a number that names no source, the fault source for SET
NOTICE, and an account source that is FREE or DAMAGED are refused (R134, R139, R141 to R143). -/
def Obligations.NoticeSettingsComplete : Prop :=
  (∀ (s : State) (c : Instr) (tag level group enable : Byte) (source mask causes : BitVec 16),
    c = .setNotice tag source level group mask enable ∨ c = .readPending tag source ∨ c = .clearCauses tag source causes →
    s.atBlock c →
    ((∀ src : Source, source ≠ BitVec.ofNat 16 src.number) → exec c s = .next (s.readied c.frame .badArgument [])) ∧
    (c = .setNotice tag source level group mask enable → source = 0xFFFF →
      exec c s = .next (s.readied c.frame .badArgument [])) ∧
    (∀ i : Slot, source = BitVec.ofNat 16 (Source.account i).number →
      (s.mapState i = .free → exec c s = .next (s.readied c.frame .notFound [])) ∧
      (s.mapState i = .damaged → exec c s = .next (s.readied c.frame .damaged [])) ∧
      (s.mismatched i → exec c s = .next ((s.damage i).readied c.frame .damaged [])))) ∧
  (∀ (s : State) (tag level group enable : Byte) (mask : BitVec 16) (src : Source),
    let c := Instr.setNotice tag (BitVec.ofNat 16 src.number) level group mask enable
    let n := s.noticeOf src
    s.atBlock c → src ≠ .fault → (∀ i, src = .account i → s.sound i) →
    (level.toNat ≤ 15 → group.toNat ≤ 3 → mask &&& ~~~src.causeBits = 0 → enable = 0 ∨ enable = 1 →
      exec c s = .next ((s.setNoticeOf src
          ⟨Fin.ofNat 16 level.toNat, Fin.ofNat 4 group.toNat, mask, decide (enable = 1), n.pending⟩).readied c.frame .ok
        ([BitVec.ofNat 8 n.level.val, BitVec.ofNat 8 n.group.val] ++ leBytes 2 n.mask.toNat ++ [if n.enable then 0x01 else 0x00]))) ∧
    (15 < level.toNat ∨ 3 < group.toNat ∨ mask &&& ~~~src.causeBits ≠ 0 ∨ (enable ≠ 0 ∧ enable ≠ 1) →
      exec c s = .next (s.readied c.frame .badArgument []))) ∧
  (∀ (s : State) (tag : Byte),
    (s.atBlock (.noticesOn tag) → exec (.noticesOn tag) s = .next (({ s with globalEnable := true } : State).readied
      (Instr.noticesOn tag).frame .ok [if s.globalEnable then 0x01 else 0x00])) ∧
    (s.atBlock (.noticesOff tag) → exec (.noticesOff tag) s = .next (({ s with globalEnable := false } : State).readied
      (Instr.noticesOff tag).frame .ok [if s.globalEnable then 0x01 else 0x00]))) ∧
  (∀ (s : State) (tag : Byte) (src : Source) (causes : BitVec 16), (∀ i, src = .account i → s.sound i) →
    let read := Instr.readPending tag (BitVec.ofNat 16 src.number)
    let clear := Instr.clearCauses tag (BitVec.ofNat 16 src.number) causes
    let n := s.noticeOf src
    let f := s.faults
    (s.atBlock read → src ≠ .fault → exec read s = .next (s.readied read.frame .ok
      ([BitVec.ofNat 8 n.level.val, BitVec.ofNat 8 n.group.val] ++ leBytes 2 n.mask.toNat ++ [if n.enable then 0x01 else 0x00]
        ++ leBytes 2 n.pending.toNat
        ++ [if s.requesting src then 0x01 else 0x00, if s.winner = some src then 0x01 else 0x00]))) ∧
    (s.atBlock read → src = .fault → exec read s = .next (s.readied read.frame .ok
      (leBytes 2 f.pending.toNat ++ [BitVec.ofNat 8 f.damagedCount]))) ∧
    (s.atBlock clear → causes &&& ~~~src.causeBits ≠ 0 → exec clear s = .next (s.readied clear.frame .badArgument [])) ∧
    (s.atBlock clear → causes &&& ~~~src.causeBits = 0 →
      (src ≠ .fault → exec clear s = .next ((s.setNoticeOf src { n with pending := n.pending &&& ~~~causes }).readied
        clear.frame .ok (leBytes 2 n.pending.toNat ++ leBytes 2 (n.pending &&& ~~~causes).toNat))) ∧
      (src = .fault →
        let removed : Prop := f.pending &&& causes &&& Cause.recordDamaged ≠ 0
        exec clear s = .next
          (({ s with faults := ⟨f.pending &&& ~~~causes, if removed then 0 else f.damagedCount⟩ } : State).readied
            clear.frame .ok (leBytes 2 f.pending.toNat ++ leBytes 2 (f.pending &&& ~~~causes).toNat
              ++ if removed then [BitVec.ofNat 8 f.damagedCount] else [])))))

/-- TAKE NOTICE hands over the fault source, else the winner above the current level, else answers NOTHING_PENDING; a winning
account whose read finds a mismatch gives the fault source in its place; END NOTICE pops the top entry and READ STACK
answers them all (R135, R136, R138, R144). -/
def Obligations.NoticeServiceCompletes : Prop :=
  ∀ (s : State) (tag : Byte),
    let take := Instr.takeNotice tag
    let depth (n : Nat) : Byte := BitVec.ofNat 8 n
    let faulted (u : State) : State :=
      ({ u with faults := ⟨0, 0⟩, stack := ⟨16, .fault⟩ :: u.stack } : State).readied take.frame .ok
        ([0xFF, 0xFF, 16] ++ leBytes 2 u.faults.pending.toNat ++ [BitVec.ofNat 8 u.faults.damagedCount, depth (u.stack.length + 1)])
    (s.atBlock take →
      (s.faults.pending ≠ 0 → s.currentLevel < 16 → exec take s = .next (faulted s)) ∧
      (s.faults.pending = 0 ∨ 16 ≤ s.currentLevel →
        (∀ w, s.winner = some w → s.currentLevel < (s.noticeOf w).level.val →
          let n := s.noticeOf w
          ((∀ i, w = .account i → s.sound i) →
            exec take s = .next (({ s.setNoticeOf w { n with pending := n.pending &&& ~~~n.mask } with
                stack := ⟨n.level.val, w⟩ :: s.stack } : State).readied take.frame .ok
              (leBytes 2 w.number ++ [BitVec.ofNat 8 n.level.val] ++ leBytes 2 (n.pending &&& n.mask).toNat
                ++ [0x00, depth (s.stack.length + 1)]))) ∧
          (∀ i, w = .account i → s.mismatched i → exec take s = .next (faulted (s.damage i)))) ∧
        ((∀ w, s.winner = some w → (s.noticeOf w).level.val ≤ s.currentLevel) →
          exec take s = .next (s.readied take.frame .nothingPending [])))) ∧
    (s.atBlock (.endNotice tag) →
      (∀ e rest, s.stack = e :: rest → exec (.endNotice tag) s = .next
        (({ s with stack := rest } : State).readied (Instr.endNotice tag).frame .ok
          ([BitVec.ofNat 8 e.level] ++ leBytes 2 e.source.number ++ [depth rest.length]))) ∧
      (s.stack = [] → exec (.endNotice tag) s = .next (s.readied (Instr.endNotice tag).frame .stackEmpty []))) ∧
    (s.atBlock (.readStack tag) → exec (.readStack tag) s = .next (s.readied (Instr.readStack tag).frame .ok
      ([depth s.stack.length] ++ (s.stack.reverse.map (fun e => [BitVec.ofNat 8 e.level] ++ leBytes 2 e.source.number)).flatten
        ++ [if s.globalEnable then 0x01 else 0x00, if s.faults.pending ≠ 0 then 0x01 else 0x00])))

/-- When a source requests; the winner is the requesting source of the highest level, of the highest group among those, and
of the lowest number among those; there is none when no source requests; the fault source takes no part; the current level
is that of the top entry, or 0; and ATTN is asserted in RUN alone, by a pending fault below level 16 or by a winner above
the current level (R129 to R131, R133). -/
def Obligations.WinnerAndAttention : Prop :=
  ∀ s : State,
    (s.winner = none ↔ ∀ src, s.requesting src = false) ∧
    s.requesting .fault = false ∧
    (∀ src, src ≠ .fault →
      let n := s.noticeOf src
      (s.requesting src = true ↔ s.globalEnable = true ∧ n.enable = true ∧ 1 ≤ n.level.val ∧ n.pending &&& n.mask ≠ 0 ∧
        ∀ i, src = .account i → s.mapState i = .opened ∨ s.mapState i = .frozen ∨ s.mapState i = .retired)) ∧
    (s.stack = [] → s.currentLevel = 0) ∧ (∀ e rest, s.stack = e :: rest → s.currentLevel = e.level) ∧
    (∀ w, s.winner = some w ↔ s.requesting w = true ∧ ∀ src, s.requesting src = true → src ≠ w →
      let n := s.noticeOf src
      let m := s.noticeOf w
      n.level < m.level ∨ (n.level = m.level ∧ n.group < m.group) ∨
        (n.level = m.level ∧ n.group = m.group ∧ w.number < src.number)) ∧
    (s.attn = true ↔ s.phase = .run ∧
      ((s.faults.pending ≠ 0 ∧ s.currentLevel < 16) ∨
        ∃ w, s.winner = some w ∧ s.currentLevel < (s.noticeOf w).level.val))

/-! Record integrity. -/

/-- A mismatch: the state DAMAGED in the map and the record, the holds against the slot freed, its LIVE channels PARKED with
their permits OFF (every bound one's permit during the start check), and RECORD_DAMAGED raised and counted, up to 255;
nothing else changes (R87, R102, R147). -/
def Obligations.DamageConsequences : Prop :=
  ∀ (s : State) (i : Slot),
    let t := s.damage i
    (∀ j, t.pair j = if j = i then (s.pair i).map (fun p => ⟨p.tag, .damaged⟩) else s.pair j) ∧
    (∀ j, t.account j =
      if j = i then { s.account i with state := .damaged, holdList := [], heldTotal := 0, syndrome := 0 }
      else s.account j) ∧
    (∀ h, t.hold h =
      if (s.hold h).held = true ∧ (s.hold h).slot = i then ⟨false, (s.hold h).generation + 1, 0, 0, 0, false, none⟩
      else s.hold h) ∧
    (∀ d,
      let ch := s.channel d
      let undrawn : Channel :=
        if (∃ h, (s.hold h).held = true ∧ (s.hold h).slot = i ∧ (s.hold h).drawnBy = some d) then { ch with drawing := none }
        else ch
      (s.phase = .run → t.channel d =
        if ch.state = .live ∧ ch.slot = i then
          { undrawn with
            state := .parked, permit := .off, graceRemaining := if ch.permit = .off then ch.graceRemaining else 0 }
        else undrawn) ∧
      (s.phase = .starting → t.channel d =
        if ch.state ≠ .unbound ∧ ch.slot = i then
          { undrawn with state := .parked, permit := .off, graceRemaining := 0 }
        else undrawn)) ∧
    t.faults = ⟨s.faults.pending ||| Cause.recordDamaged, min (s.faults.damagedCount + 1) 255⟩ ∧
    t = { s with accounts := t.accounts, tagMap := t.tagMap, channels := t.channels, holds := t.holds, faults := t.faults }

/-- REBUILD ACCOUNT writes a DAMAGED record whole and makes it FROZEN, keeping or dropping the specification as read,
and refuses bad limits; NEXT DAMAGED answers from the map. The one-byte counts, how the named pool is read, that the
record's own specification is not counted, that the other records are counted unverified, and that a count of 0 stays at
0 where a specification not kept names it, are the model's choices (R150, R151; logs 13, 19, 31 and 33). -/
def Obligations.RebuildAndNextDamagedComplete : Prop :=
  (∀ (s : State) (tag last : Byte) (slot : Slot) (balance ceiling : BitVec 40) (floor lowMark : BitVec 32)
      (charged credited : BitVec 48),
    let c := Instr.rebuildAccount tag slot balance floor lowMark ceiling charged credited last
    s.atBlock c → s.mapState slot = .damaged →
    ¬(floor.toInt ≤ 0 ∧ floor.toInt ≤ lowMark.toInt ∧ lowMark.toInt < ceiling.toInt ∧ 1 ≤ ceiling.toInt) ∨
      ceiling.toInt < balance.toInt →
    exec c s = .next (s.readied c.frame .badArgument [])) ∧
  (∀ (s : State) (tag last : Byte) (slot : Slot) (balance ceiling : BitVec 40) (floor lowMark : BitVec 32)
      (charged credited : BitVec 48) (p : MapPair),
    let c := Instr.rebuildAccount tag slot balance floor lowMark ceiling charged credited last
    let a := s.account slot
    s.atBlock c → s.pair slot = some p → p.state = .damaged →
    floor.toInt ≤ 0 → floor.toInt ≤ lowMark.toInt → lowMark.toInt < ceiling.toInt → 1 ≤ ceiling.toInt →
    balance.toInt ≤ ceiling.toInt →
    let bare := s.setAccount slot { a with refill := none }
    let bound := s.channels.toList.countP (Channel.boundTo slot)
    let naming := bare.accounts.toList.countP (Account.namesPool slot)
    let kind : Kind :=
      if 0 < bound then .consumer else if 0 < naming then .pool else if a.kind = .pool then .pool else .consumer
    let kept := bare.rebuiltRefill slot kind a.refill
    let low := decide (balance.toInt ≤ lowMark.toInt)
    let empty := decide (balance.toInt ≤ floor.toInt)
    let dependents := if kind = .pool then naming else 0
    let record : Account :=
      { state := .frozen, tag := p.tag, kind := kind, cls := if 15 < a.cls then 0 else a.cls, balance := balance.toInt,
        floor := floor.toInt, lowMark := lowMark.toInt, ceiling := ceiling.toInt, heldTotal := 0, holdList := [],
        bindingCount := bound, refill := kept.2, dependents := dependents, charged := charged.toNat,
        credited := credited.toNat, clamped := false, overrun := false, low := low, empty := empty,
        lastSweep := last.toNat, notice := ⟨0, 0, 0, false, 0⟩, syndrome := 0 }
    exec c s = .next
      ((((kept.1.setPair slot (some ⟨p.tag, .frozen⟩)).setAccount slot record).mapBound slot
        (fun ch => { ch with emptyMark := empty })).readied c.frame .ok
        [kind.code, BitVec.ofNat 8 bound, BitVec.ofNat 8 dependents, if kept.2.isSome then 0x01 else 0x00,
          if low then 0x01 else 0x00, if empty then 0x01 else 0x00])) ∧
  (∀ (u : State) (slot : Slot) (kind : Kind),
    u.rebuiltRefill slot kind none = (u, none) ∧
    ∀ r : RefillSpec,
      let p := u.account r.pool
      let names : Prop := (u.mapState r.pool = .damaged ∨ (u.sound r.pool ∧ (p.state = .opened ∨ p.state = .frozen))) ∧ p.kind = .pool
      let fit : Prop := kind = .consumer ∧ 1 ≤ r.amount ∧ r.amount ≤ 2147483647
      (r.pool = slot → u.rebuiltRefill slot kind (some r) = (u, none)) ∧
      (r.pool ≠ slot →
        (names → fit → u.rebuiltRefill slot kind (some r) = (u, some r)) ∧
        (names → ¬fit → u.rebuiltRefill slot kind (some r) = (u.lowerDependents r.pool, none)) ∧
        (¬names → ¬u.mismatched r.pool → u.rebuiltRefill slot kind (some r) = (u, none)))) ∧
  (∀ (s : State) (tag : Byte) (slot : Slot),
    let c := Instr.nextDamaged tag slot
    s.atBlock c →
    (∀ (j : Slot) (p : MapPair), slot ≤ j → s.pair j = some p → p.state = .damaged →
      (∀ k, slot ≤ k → k < j → s.mapState k ≠ .damaged) →
      exec c s = .next (s.readied c.frame .ok ([BitVec.ofNat 8 j.val] ++ leBytes 4 p.tag.toNat))) ∧
    ((∀ j, slot ≤ j → s.mapState j ≠ .damaged) → exec c s = .next (s.readied c.frame .notFound [])))

/-- DISCARD ACCOUNT of a DAMAGED account: its channels unbound in ascending order with their quantities noted (the
requests withdrawn as UsageChargeCompletes says), its own specification dropped, the specifications that name it removed
with REFILL_FAILED on each sound consumer, and the slot FREE; REBUILD ACCOUNT and DISCARD ACCOUNT of an account that is
not DAMAGED are refused. The one-byte counts, how the named pool is read, that the consumers are found unverified, and
that a pool's count of 0 stays at 0, are the model's choices (R151, R152; logs 13, 19, 31 and 33). -/
def Obligations.DiscardAccountCompletes : Prop :=
  (∀ (s : State) (tag : Byte) (slot : Slot),
    let c := Instr.discardAccount tag slot
    s.atBlock c → s.mapState slot = .damaged →
    let bound := [(0 : Chan), 1, 2, 3, 4, 5, 6, 7].filter (fun d => (s.channel d).boundTo slot)
    let noted := bound.map (fun d => [BitVec.ofNat 8 d.val] ++ leBytes 4 (s.channel d).withdraw.deferredImport
      ++ leBytes 4 (s.channel d).withdraw.deferredExport)
    let unbound := bound.foldl (fun t d => (t.setChannel d (t.channel d).withdraw).unbindChannel d) s
    let dropped := unbound.discardOwnRefill slot
    let consumers := allSlots.filter (fun j =>
      decide (j ≠ slot) && decide (dropped.mapState j ≠ .free) && (dropped.account j).namesPool slot)
    let freed := consumers.foldl (fun t j =>
      let u := (t.readRecord j).1
      let bare := { u.account j with refill := none }
      u.setAccount j (if u.mapState j = .damaged then bare
        else { bare with notice := { bare.notice with pending := bare.notice.pending ||| Cause.refillFailed } })) dropped
    exec c s = .next (((freed.setPair slot none).setAccount slot .zero).readied c.frame .ok
      ([BitVec.ofNat 8 bound.length] ++ noted.flatten ++ [BitVec.ofNat 8 consumers.length]))) ∧
  (∀ (u : State) (i : Slot),
    ((u.account i).refill = none → u.discardOwnRefill i = u) ∧
    ∀ r, (u.account i).refill = some r →
      let bare := u.setAccount i { u.account i with refill := none }
      let p := bare.account r.pool
      let names : Prop :=
        (bare.mapState r.pool = .damaged ∨ (bare.sound r.pool ∧ (p.state = .opened ∨ p.state = .frozen))) ∧ p.kind = .pool
      (names → u.discardOwnRefill i = bare.lowerDependents r.pool) ∧
      (¬names → ¬bare.mismatched r.pool → u.discardOwnRefill i = bare)) ∧
  (∀ (s : State) (c : Instr) (tag last : Byte) (slot : Slot) (balance ceiling : BitVec 40) (floor lowMark : BitVec 32)
      (charged credited : BitVec 48),
    c = .discardAccount tag slot ∨ c = .rebuildAccount tag slot balance floor lowMark ceiling charged credited last →
    s.atBlock c →
    (s.mapState slot = .free → exec c s = .next (s.readied c.frame .notFound [])) ∧
    (s.mapState slot ≠ .free → s.mapState slot ≠ .damaged → exec c s = .next (s.readied c.frame .wrongState [])))

/-! Supplies and starts. -/

/-- The loss of the supplies and the cold start: RETAIN withdraws what is outstanding (requests as UsageChargeCompletes
says) and keeps the tables; OFF loses them; VBK alone changes nothing else; a cold start gives every table its cold values.
What the tables hold in OFF, how VBK is recorded, and that RETAIN leaves a READY response and the replay memory standing are
the model's choices (R156, R157; logs 7, 20 and 23). -/
def Obligations.SupplyRowsComplete : Prop :=
  ∀ s : State,
    (s.phase = .run ∨ s.phase = .starting →
      (∃ t : State, exec .enterRetain s = .next t ∧
        (∀ d, t.channel d = { (s.channel d).withdraw with receiver := .hunting }) ∧
        (s.sweep.state = .running →
          t.sweep = { s.sweep with state := .idle, ending := .interrupted, stopOwed := true }) ∧
        (s.sweep.state = .idle → t.sweep = s.sweep) ∧
        (∀ f, s.port = .busy f → t.port = .empty) ∧ ((∀ f, s.port ≠ .busy f) → t.port = s.port) ∧
        t = { s with channels := t.channels, sweep := t.sweep, expiryRequests := [], phase := .retain, vbk := true,
                     port := t.port }) ∧
      exec .vbkLost s = .next { s with vbk := false }) ∧
    (s.phase ≠ .off → ∃ t : State, exec .supplyOff s = .next t ∧ t.phase = .off ∧ t.retention = false ∧ (∀ c, t.pmt c = false) ∧
      t.attn = false ∧ t.rdy = false ∧ t.resetN = s.resetN ∧ t.pending = s.pending) ∧
    (s.phase = .off → s.retention = false → ∃ t : State, exec .coldStart s = .next t ∧
      t.phase = (if s.resetN then .run else .starting) ∧ t.startCause = .cold ∧ t.retention = true ∧ t.refPresent = true ∧
      t.supplyNoticeOwed = false ∧ t.checkPosition = 0 ∧ t.divider = 0 ∧ t.port = .empty ∧ t.replay = none ∧
      (∀ i, t.account i = .zero ∧ t.pair i = none) ∧ (∀ e, t.tariff e = .zero) ∧ (∀ d, t.channel d = .zero) ∧
      (∀ h, t.hold h = .zero) ∧ t.sweep = .zero ∧ t.stack = [] ∧ t.globalEnable = false ∧ t.faults = ⟨0, 0⟩ ∧
      t.device = ⟨0, 0, 0, false, if s.resetN then Cause.startDone else 0⟩ ∧ t.pending = s.pending ∧ t.resetN = s.resetN)

/-- The three occasions of a warm start and the rise of RESET_N: STARTING at position 0 with the cause, every LIVE channel
PARKED with its permit held, the receivers hunting, the stack, the global enable, the port and the replay memory emptied;
RESET_N and RESTART also withdraw what is outstanding (requests as UsageChargeCompletes says); the rise ends only a cold
start held at STARTING. What is an edge of RESET_N is the model's choice (R157, R159; log 21). -/
def Obligations.WarmStartsComplete : Prop :=
  let started (cause : StartCause) (park : Channel → Channel) (s t : State) : Prop :=
    t.phase = .starting ∧ t.startCause = cause ∧ t.checkPosition = 0 ∧ t.refPresent = true ∧ t.stack = [] ∧
    t.globalEnable = false ∧ t.port = .empty ∧ t.replay = none ∧
    (∀ d, t.channel d =
      (let ch := park (s.channel d)
       { ch with state := if ch.state = .live then .parked else ch.state, receiver := .hunting })) ∧
    t.accounts = s.accounts ∧ t.tagMap = s.tagMap ∧ t.tariffs = s.tariffs ∧ t.holds = s.holds ∧ t.device = s.device ∧
    t.faults = s.faults ∧ t.retention = s.retention ∧ t.vbk = s.vbk ∧ t.sdo = s.sdo ∧ t.pending = s.pending
  let stopped (s t : State) : Prop := t.expiryRequests = [] ∧ t.supplyNoticeOwed = s.supplyNoticeOwed ∧
    t.sweep = if s.sweep.state = .running then { s.sweep with state := .idle, ending := .interrupted, stopOwed := true }
      else s.sweep
  ∀ (s : State) (tag : Byte),
    (s.phase = .retain → s.retention = true → ∃ t : State, exec .supplyReturn s = .next t ∧ started .supply id s t ∧
      t.supplyNoticeOwed = true ∧ t.sweep = s.sweep ∧ t.expiryRequests = s.expiryRequests ∧ t.resetN = s.resetN) ∧
    (s.phase = .run ∨ s.phase = .starting → s.resetN = true → ∃ t : State, exec .resetPinFall s = .next t ∧
      started .resetPin Channel.withdraw s t ∧ stopped s t ∧ t.resetN = false) ∧
    (s.atBlock (.restart tag) → ∃ t : State, exec (.restart tag) s = .next t ∧
      started .restart Channel.withdraw s t ∧ stopped s t ∧ t.resetN = s.resetN) ∧
    (¬(s.phase = .starting ∧ s.startCause = .cold) → exec .resetPinRise s = .next { s with resetN := true }) ∧
    (s.phase = .starting → s.startCause = .cold → s.resetN = false → exec .resetPinRise s = .next
      { s with
        resetN := true, phase := .run, divider := 0,
        device := { s.device with pending := s.device.pending ||| Cause.startDone } })

/-- A read of the start check and its completion, in stages: deferred charges of OPEN accounts, channels to LIVE, the
redrive and the silence reload, the causes, and RUN. In the first stage a channel's import is charged before its export; an
account that is not OPEN is charged nothing; a mismatch makes the account DAMAGED and leaves the quantity deferred. That a
quantity of zero reads no record, and that a cold start held at STARTING takes neither row, are the model's readings (R103,
R160, R161; logs 18 and 22). -/
def Obligations.StartCheckRowsComplete : Prop :=
  (∀ s : State, s.phase = .starting → s.startCause ≠ .cold → s.resetN = true →
    (∀ i : Slot, s.checkPosition = i.val →
      (s.mapState i = .free ∨ s.mapState i = .damaged ∨ s.sound i →
        exec .startCheckRead s = .next { s with checkPosition := i.val + 1 }) ∧
      (s.mismatched i → exec .startCheckRead s = .next { s.damage i with checkPosition := i.val + 1 })) ∧
    (s.checkPosition = 256 → ∃ t : State, exec .startCheckCompletion s = .next t ∧
      (let charged := [(0 : Chan), 1, 2, 3, 4, 5, 6, 7].foldl State.completionChannel s
       (∀ d, t.channel d =
        (let ch := charged.channel d
         if ch.state = .unbound then ch
         else
          let driven := (if charged.mapState ch.slot = .opened then { ch with state := .live } else ch).evaluate
          let reloaded := { driven with silenceCounter := driven.silenceTimeout, silent := false }
          if driven.silent then reloaded.evaluate else reloaded)) ∧
       t.accounts = charged.accounts ∧ t.tagMap = charged.tagMap ∧ t.holds = charged.holds ∧ t.tariffs = charged.tariffs ∧
       t.faults = (if charged.supplyNoticeOwed then { charged.faults with pending := charged.faults.pending ||| Cause.supplyReturned }
         else charged.faults) ∧
       t.device.pending = s.device.pending ||| Cause.startDone ||| (if s.sweep.stopOwed then Cause.sweepStopped else 0) ∧
       t.supplyNoticeOwed = false ∧ t.sweep = { s.sweep with stopOwed := false } ∧ t.phase = .run ∧ t.divider = 0 ∧
       (∃ due : List Handle, t.expiryRequests = s.expiryRequests ++ due ∧ ∀ g, g ∈ due ↔
        (t.hold g.idx).held = true ∧ (t.hold g.idx).expiryDue = true ∧ (t.hold g.idx).generation = g.gen) ∧
       t.port = s.port ∧ t.replay = s.replay ∧ t.stack = s.stack ∧ t.globalEnable = s.globalEnable ∧
       t.startCause = s.startCause))) ∧
  ∀ (s : State) (d : Chan),
    let ch := s.channel d
    let skips (q : Nat) : Prop := ch.state = .unbound ∨ s.mapState ch.slot ≠ .opened ∨ q = 0
    let broken : Prop := (s.account ch.slot).syndrome ≠ 0
    s.completionChannel d = (s.completionCharge .imp d).completionCharge .exp d ∧
    (skips ch.deferredImport → s.completionCharge .imp d = s) ∧
    (¬skips ch.deferredImport → ¬broken → s.completionCharge .imp d =
      ((s.setChannel d { ch with deferredImport := 0 }).chargeQuantity d .imp ch.deferredImport).1) ∧
    (¬skips ch.deferredImport → broken → s.completionCharge .imp d = s.damage ch.slot) ∧
    (skips ch.deferredExport → s.completionCharge .exp d = s) ∧
    (¬skips ch.deferredExport → ¬broken → s.completionCharge .exp d =
      ((s.setChannel d { ch with deferredExport := 0 }).chargeQuantity d .exp ch.deferredExport).1) ∧
    (¬skips ch.deferredExport → broken → s.completionCharge .exp d = s.damage ch.slot) ∧
    ((s.damage ch.slot).channel d).deferredImport = ch.deferredImport ∧
    ((s.damage ch.slot).channel d).deferredExport = ch.deferredExport

/-- ERASE TABLES brings every table to its cold values in RUN, with START_DONE raised, and leaves the reference and the
divider; DEVICE STATUS answers in RUN and in STARTING and changes nothing (R158, R172). -/
def Obligations.EraseTablesAndDeviceStatusComplete : Prop :=
  ∀ (s : State) (tag : Byte),
    (s.atBlock (.eraseTables tag) → ∃ t : State, exec (.eraseTables tag) s = .next (t.readied (Instr.eraseTables tag).frame .ok []) ∧
      t.phase = .run ∧ t.startCause = .erase ∧ t.supplyNoticeOwed = false ∧ t.checkPosition = 0 ∧ t.retention = true ∧
      t.refPresent = s.refPresent ∧ t.divider = s.divider ∧
      (∀ i, t.account i = .zero ∧ t.pair i = none) ∧ (∀ e, t.tariff e = .zero) ∧ (∀ d, t.channel d = .zero) ∧
      (∀ h, t.hold h = .zero) ∧ t.expiryRequests = [] ∧ t.sweep = .zero ∧ t.stack = [] ∧ t.globalEnable = false ∧
      t.faults = ⟨0, 0⟩ ∧ t.device = ⟨0, 0, 0, false, Cause.startDone⟩ ∧ t.pending = s.pending ∧ t.resetN = s.resetN ∧
      t.vbk = s.vbk ∧ t.sdo = s.sdo) ∧
    (s.phase = .run ∨ s.phase = .starting → s.port = .busy (Instr.deviceStatus tag).frame →
      exec (.deviceStatus tag) s = .next (s.readied (Instr.deviceStatus tag).frame .ok
        ([0x56, 0x2A, 0x01, if s.phase = .run then 0x00 else 0x01, s.startCause.code, if s.refPresent then 0x01 else 0x00]
          ++ leBytes 2 (allSlots.countP (fun i => (s.pair i).isNone)) ++ [BitVec.ofNat 8 (allHolds.countP (fun h => !(s.hold h).held))]
          ++ leBytes 2 (allSlots.countP (fun i => decide (s.mapState i = .damaged)))
          ++ [s.sweep.state.code, if s.globalEnable then 0x01 else 0x00, BitVec.ofNat 8 s.stack.length])))
end

