-- ==== Sys2Proof/Laws/State.lean ====
section
/-! SUPPORT. What each update of State leaves alone, field by field, and what the tables read after it. -/

namespace Sys2Proof.Laws

open Sys2Proof.Machine

/-- Reading a table after one place of it is written. -/
theorem get_set {α : Type} {n : Nat} (v : Vector α n) (i j : Fin n) (x : α) :
    (v.set i.val x i.isLt).get j = if i = j then x else v.get j := by
  simp [Vector.get_eq_getElem, Vector.getElem_set, Fin.ext_iff]

/-- Reading a table that is given by a function of the place. -/
theorem get_tabulate {α : Type} {n : Nat} (f : Fin n → α) (j : Fin n) : (tabulate f).get j = f j := by
  simp [tabulate, Vector.get_eq_getElem]

/-- Reading a table of one value. -/
theorem get_replicate {α : Type} {n : Nat} (x : α) (j : Fin n) : (Vector.replicate n x).get j = x := by
  simp [Vector.get_eq_getElem]

/-! setAccount writes accounts alone. -/

@[simp] theorem setAccount_tagMap (s : State) (i : Slot) (a : Account) : (s.setAccount i a).tagMap = s.tagMap := rfl
@[simp] theorem setAccount_tariffs (s : State) (i : Slot) (a : Account) : (s.setAccount i a).tariffs = s.tariffs := rfl
@[simp] theorem setAccount_channels (s : State) (i : Slot) (a : Account) : (s.setAccount i a).channels = s.channels := rfl
@[simp] theorem setAccount_holds (s : State) (i : Slot) (a : Account) : (s.setAccount i a).holds = s.holds := rfl
@[simp] theorem setAccount_expiryRequests (s : State) (i : Slot) (a : Account) : (s.setAccount i a).expiryRequests = s.expiryRequests := rfl
@[simp] theorem setAccount_sweep (s : State) (i : Slot) (a : Account) : (s.setAccount i a).sweep = s.sweep := rfl
@[simp] theorem setAccount_device (s : State) (i : Slot) (a : Account) : (s.setAccount i a).device = s.device := rfl
@[simp] theorem setAccount_globalEnable (s : State) (i : Slot) (a : Account) : (s.setAccount i a).globalEnable = s.globalEnable := rfl
@[simp] theorem setAccount_stack (s : State) (i : Slot) (a : Account) : (s.setAccount i a).stack = s.stack := rfl
@[simp] theorem setAccount_faults (s : State) (i : Slot) (a : Account) : (s.setAccount i a).faults = s.faults := rfl
@[simp] theorem setAccount_phase (s : State) (i : Slot) (a : Account) : (s.setAccount i a).phase = s.phase := rfl
@[simp] theorem setAccount_startCause (s : State) (i : Slot) (a : Account) : (s.setAccount i a).startCause = s.startCause := rfl
@[simp] theorem setAccount_refPresent (s : State) (i : Slot) (a : Account) : (s.setAccount i a).refPresent = s.refPresent := rfl
@[simp] theorem setAccount_supplyNoticeOwed (s : State) (i : Slot) (a : Account) : (s.setAccount i a).supplyNoticeOwed = s.supplyNoticeOwed := rfl
@[simp] theorem setAccount_checkPosition (s : State) (i : Slot) (a : Account) : (s.setAccount i a).checkPosition = s.checkPosition := rfl
@[simp] theorem setAccount_retention (s : State) (i : Slot) (a : Account) : (s.setAccount i a).retention = s.retention := rfl
@[simp] theorem setAccount_divider (s : State) (i : Slot) (a : Account) : (s.setAccount i a).divider = s.divider := rfl
@[simp] theorem setAccount_resetN (s : State) (i : Slot) (a : Account) : (s.setAccount i a).resetN = s.resetN := rfl
@[simp] theorem setAccount_vbk (s : State) (i : Slot) (a : Account) : (s.setAccount i a).vbk = s.vbk := rfl
@[simp] theorem setAccount_port (s : State) (i : Slot) (a : Account) : (s.setAccount i a).port = s.port := rfl
@[simp] theorem setAccount_replay (s : State) (i : Slot) (a : Account) : (s.setAccount i a).replay = s.replay := rfl
@[simp] theorem setAccount_sdo (s : State) (i : Slot) (a : Account) : (s.setAccount i a).sdo = s.sdo := rfl
@[simp] theorem setAccount_choice (s : State) (i : Slot) (a : Account) : (s.setAccount i a).choice = s.choice := rfl
@[simp] theorem setAccount_pending (s : State) (i : Slot) (a : Account) : (s.setAccount i a).pending = s.pending := rfl
@[simp] theorem setAccount_pair (s : State) (i : Slot) (a : Account) (j : Slot) : (s.setAccount i a).pair j = s.pair j := rfl
@[simp] theorem setAccount_tariff (s : State) (i : Slot) (a : Account) (u : TariffIdx) : (s.setAccount i a).tariff u = s.tariff u := rfl
@[simp] theorem setAccount_channel (s : State) (i : Slot) (a : Account) (d : Chan) : (s.setAccount i a).channel d = s.channel d := rfl
@[simp] theorem setAccount_hold (s : State) (i : Slot) (a : Account) (k : HoldIdx) : (s.setAccount i a).hold k = s.hold k := rfl

/-! setPair writes tagMap alone. -/

@[simp] theorem setPair_accounts (s : State) (i : Slot) (p : Option MapPair) : (s.setPair i p).accounts = s.accounts := rfl
@[simp] theorem setPair_tariffs (s : State) (i : Slot) (p : Option MapPair) : (s.setPair i p).tariffs = s.tariffs := rfl
@[simp] theorem setPair_channels (s : State) (i : Slot) (p : Option MapPair) : (s.setPair i p).channels = s.channels := rfl
@[simp] theorem setPair_holds (s : State) (i : Slot) (p : Option MapPair) : (s.setPair i p).holds = s.holds := rfl
@[simp] theorem setPair_expiryRequests (s : State) (i : Slot) (p : Option MapPair) : (s.setPair i p).expiryRequests = s.expiryRequests := rfl
@[simp] theorem setPair_sweep (s : State) (i : Slot) (p : Option MapPair) : (s.setPair i p).sweep = s.sweep := rfl
@[simp] theorem setPair_device (s : State) (i : Slot) (p : Option MapPair) : (s.setPair i p).device = s.device := rfl
@[simp] theorem setPair_globalEnable (s : State) (i : Slot) (p : Option MapPair) : (s.setPair i p).globalEnable = s.globalEnable := rfl
@[simp] theorem setPair_stack (s : State) (i : Slot) (p : Option MapPair) : (s.setPair i p).stack = s.stack := rfl
@[simp] theorem setPair_faults (s : State) (i : Slot) (p : Option MapPair) : (s.setPair i p).faults = s.faults := rfl
@[simp] theorem setPair_phase (s : State) (i : Slot) (p : Option MapPair) : (s.setPair i p).phase = s.phase := rfl
@[simp] theorem setPair_startCause (s : State) (i : Slot) (p : Option MapPair) : (s.setPair i p).startCause = s.startCause := rfl
@[simp] theorem setPair_refPresent (s : State) (i : Slot) (p : Option MapPair) : (s.setPair i p).refPresent = s.refPresent := rfl
@[simp] theorem setPair_supplyNoticeOwed (s : State) (i : Slot) (p : Option MapPair) : (s.setPair i p).supplyNoticeOwed = s.supplyNoticeOwed := rfl
@[simp] theorem setPair_checkPosition (s : State) (i : Slot) (p : Option MapPair) : (s.setPair i p).checkPosition = s.checkPosition := rfl
@[simp] theorem setPair_retention (s : State) (i : Slot) (p : Option MapPair) : (s.setPair i p).retention = s.retention := rfl
@[simp] theorem setPair_divider (s : State) (i : Slot) (p : Option MapPair) : (s.setPair i p).divider = s.divider := rfl
@[simp] theorem setPair_resetN (s : State) (i : Slot) (p : Option MapPair) : (s.setPair i p).resetN = s.resetN := rfl
@[simp] theorem setPair_vbk (s : State) (i : Slot) (p : Option MapPair) : (s.setPair i p).vbk = s.vbk := rfl
@[simp] theorem setPair_port (s : State) (i : Slot) (p : Option MapPair) : (s.setPair i p).port = s.port := rfl
@[simp] theorem setPair_replay (s : State) (i : Slot) (p : Option MapPair) : (s.setPair i p).replay = s.replay := rfl
@[simp] theorem setPair_sdo (s : State) (i : Slot) (p : Option MapPair) : (s.setPair i p).sdo = s.sdo := rfl
@[simp] theorem setPair_choice (s : State) (i : Slot) (p : Option MapPair) : (s.setPair i p).choice = s.choice := rfl
@[simp] theorem setPair_pending (s : State) (i : Slot) (p : Option MapPair) : (s.setPair i p).pending = s.pending := rfl
@[simp] theorem setPair_account (s : State) (i : Slot) (p : Option MapPair) (j : Slot) : (s.setPair i p).account j = s.account j := rfl
@[simp] theorem setPair_tariff (s : State) (i : Slot) (p : Option MapPair) (u : TariffIdx) : (s.setPair i p).tariff u = s.tariff u := rfl
@[simp] theorem setPair_channel (s : State) (i : Slot) (p : Option MapPair) (d : Chan) : (s.setPair i p).channel d = s.channel d := rfl
@[simp] theorem setPair_hold (s : State) (i : Slot) (p : Option MapPair) (k : HoldIdx) : (s.setPair i p).hold k = s.hold k := rfl

/-! setTariff writes tariffs alone. -/

@[simp] theorem setTariff_accounts (s : State) (t : TariffIdx) (e : Tariff) : (s.setTariff t e).accounts = s.accounts := rfl
@[simp] theorem setTariff_tagMap (s : State) (t : TariffIdx) (e : Tariff) : (s.setTariff t e).tagMap = s.tagMap := rfl
@[simp] theorem setTariff_channels (s : State) (t : TariffIdx) (e : Tariff) : (s.setTariff t e).channels = s.channels := rfl
@[simp] theorem setTariff_holds (s : State) (t : TariffIdx) (e : Tariff) : (s.setTariff t e).holds = s.holds := rfl
@[simp] theorem setTariff_expiryRequests (s : State) (t : TariffIdx) (e : Tariff) : (s.setTariff t e).expiryRequests = s.expiryRequests := rfl
@[simp] theorem setTariff_sweep (s : State) (t : TariffIdx) (e : Tariff) : (s.setTariff t e).sweep = s.sweep := rfl
@[simp] theorem setTariff_device (s : State) (t : TariffIdx) (e : Tariff) : (s.setTariff t e).device = s.device := rfl
@[simp] theorem setTariff_globalEnable (s : State) (t : TariffIdx) (e : Tariff) : (s.setTariff t e).globalEnable = s.globalEnable := rfl
@[simp] theorem setTariff_stack (s : State) (t : TariffIdx) (e : Tariff) : (s.setTariff t e).stack = s.stack := rfl
@[simp] theorem setTariff_faults (s : State) (t : TariffIdx) (e : Tariff) : (s.setTariff t e).faults = s.faults := rfl
@[simp] theorem setTariff_phase (s : State) (t : TariffIdx) (e : Tariff) : (s.setTariff t e).phase = s.phase := rfl
@[simp] theorem setTariff_startCause (s : State) (t : TariffIdx) (e : Tariff) : (s.setTariff t e).startCause = s.startCause := rfl
@[simp] theorem setTariff_refPresent (s : State) (t : TariffIdx) (e : Tariff) : (s.setTariff t e).refPresent = s.refPresent := rfl
@[simp] theorem setTariff_supplyNoticeOwed (s : State) (t : TariffIdx) (e : Tariff) : (s.setTariff t e).supplyNoticeOwed = s.supplyNoticeOwed := rfl
@[simp] theorem setTariff_checkPosition (s : State) (t : TariffIdx) (e : Tariff) : (s.setTariff t e).checkPosition = s.checkPosition := rfl
@[simp] theorem setTariff_retention (s : State) (t : TariffIdx) (e : Tariff) : (s.setTariff t e).retention = s.retention := rfl
@[simp] theorem setTariff_divider (s : State) (t : TariffIdx) (e : Tariff) : (s.setTariff t e).divider = s.divider := rfl
@[simp] theorem setTariff_resetN (s : State) (t : TariffIdx) (e : Tariff) : (s.setTariff t e).resetN = s.resetN := rfl
@[simp] theorem setTariff_vbk (s : State) (t : TariffIdx) (e : Tariff) : (s.setTariff t e).vbk = s.vbk := rfl
@[simp] theorem setTariff_port (s : State) (t : TariffIdx) (e : Tariff) : (s.setTariff t e).port = s.port := rfl
@[simp] theorem setTariff_replay (s : State) (t : TariffIdx) (e : Tariff) : (s.setTariff t e).replay = s.replay := rfl
@[simp] theorem setTariff_sdo (s : State) (t : TariffIdx) (e : Tariff) : (s.setTariff t e).sdo = s.sdo := rfl
@[simp] theorem setTariff_choice (s : State) (t : TariffIdx) (e : Tariff) : (s.setTariff t e).choice = s.choice := rfl
@[simp] theorem setTariff_pending (s : State) (t : TariffIdx) (e : Tariff) : (s.setTariff t e).pending = s.pending := rfl
@[simp] theorem setTariff_account (s : State) (t : TariffIdx) (e : Tariff) (j : Slot) : (s.setTariff t e).account j = s.account j := rfl
@[simp] theorem setTariff_pair (s : State) (t : TariffIdx) (e : Tariff) (j : Slot) : (s.setTariff t e).pair j = s.pair j := rfl
@[simp] theorem setTariff_channel (s : State) (t : TariffIdx) (e : Tariff) (d : Chan) : (s.setTariff t e).channel d = s.channel d := rfl
@[simp] theorem setTariff_hold (s : State) (t : TariffIdx) (e : Tariff) (k : HoldIdx) : (s.setTariff t e).hold k = s.hold k := rfl

/-! setChannel writes channels alone. -/

@[simp] theorem setChannel_accounts (s : State) (c : Chan) (ch : Channel) : (s.setChannel c ch).accounts = s.accounts := rfl
@[simp] theorem setChannel_tagMap (s : State) (c : Chan) (ch : Channel) : (s.setChannel c ch).tagMap = s.tagMap := rfl
@[simp] theorem setChannel_tariffs (s : State) (c : Chan) (ch : Channel) : (s.setChannel c ch).tariffs = s.tariffs := rfl
@[simp] theorem setChannel_holds (s : State) (c : Chan) (ch : Channel) : (s.setChannel c ch).holds = s.holds := rfl
@[simp] theorem setChannel_expiryRequests (s : State) (c : Chan) (ch : Channel) : (s.setChannel c ch).expiryRequests = s.expiryRequests := rfl
@[simp] theorem setChannel_sweep (s : State) (c : Chan) (ch : Channel) : (s.setChannel c ch).sweep = s.sweep := rfl
@[simp] theorem setChannel_device (s : State) (c : Chan) (ch : Channel) : (s.setChannel c ch).device = s.device := rfl
@[simp] theorem setChannel_globalEnable (s : State) (c : Chan) (ch : Channel) : (s.setChannel c ch).globalEnable = s.globalEnable := rfl
@[simp] theorem setChannel_stack (s : State) (c : Chan) (ch : Channel) : (s.setChannel c ch).stack = s.stack := rfl
@[simp] theorem setChannel_faults (s : State) (c : Chan) (ch : Channel) : (s.setChannel c ch).faults = s.faults := rfl
@[simp] theorem setChannel_phase (s : State) (c : Chan) (ch : Channel) : (s.setChannel c ch).phase = s.phase := rfl
@[simp] theorem setChannel_startCause (s : State) (c : Chan) (ch : Channel) : (s.setChannel c ch).startCause = s.startCause := rfl
@[simp] theorem setChannel_refPresent (s : State) (c : Chan) (ch : Channel) : (s.setChannel c ch).refPresent = s.refPresent := rfl
@[simp] theorem setChannel_supplyNoticeOwed (s : State) (c : Chan) (ch : Channel) : (s.setChannel c ch).supplyNoticeOwed = s.supplyNoticeOwed := rfl
@[simp] theorem setChannel_checkPosition (s : State) (c : Chan) (ch : Channel) : (s.setChannel c ch).checkPosition = s.checkPosition := rfl
@[simp] theorem setChannel_retention (s : State) (c : Chan) (ch : Channel) : (s.setChannel c ch).retention = s.retention := rfl
@[simp] theorem setChannel_divider (s : State) (c : Chan) (ch : Channel) : (s.setChannel c ch).divider = s.divider := rfl
@[simp] theorem setChannel_resetN (s : State) (c : Chan) (ch : Channel) : (s.setChannel c ch).resetN = s.resetN := rfl
@[simp] theorem setChannel_vbk (s : State) (c : Chan) (ch : Channel) : (s.setChannel c ch).vbk = s.vbk := rfl
@[simp] theorem setChannel_port (s : State) (c : Chan) (ch : Channel) : (s.setChannel c ch).port = s.port := rfl
@[simp] theorem setChannel_replay (s : State) (c : Chan) (ch : Channel) : (s.setChannel c ch).replay = s.replay := rfl
@[simp] theorem setChannel_sdo (s : State) (c : Chan) (ch : Channel) : (s.setChannel c ch).sdo = s.sdo := rfl
@[simp] theorem setChannel_choice (s : State) (c : Chan) (ch : Channel) : (s.setChannel c ch).choice = s.choice := rfl
@[simp] theorem setChannel_pending (s : State) (c : Chan) (ch : Channel) : (s.setChannel c ch).pending = s.pending := rfl
@[simp] theorem setChannel_account (s : State) (c : Chan) (ch : Channel) (j : Slot) : (s.setChannel c ch).account j = s.account j := rfl
@[simp] theorem setChannel_pair (s : State) (c : Chan) (ch : Channel) (j : Slot) : (s.setChannel c ch).pair j = s.pair j := rfl
@[simp] theorem setChannel_tariff (s : State) (c : Chan) (ch : Channel) (u : TariffIdx) : (s.setChannel c ch).tariff u = s.tariff u := rfl
@[simp] theorem setChannel_hold (s : State) (c : Chan) (ch : Channel) (k : HoldIdx) : (s.setChannel c ch).hold k = s.hold k := rfl

/-! setHold writes holds alone. -/

@[simp] theorem setHold_accounts (s : State) (h : HoldIdx) (e : Hold) : (s.setHold h e).accounts = s.accounts := rfl
@[simp] theorem setHold_tagMap (s : State) (h : HoldIdx) (e : Hold) : (s.setHold h e).tagMap = s.tagMap := rfl
@[simp] theorem setHold_tariffs (s : State) (h : HoldIdx) (e : Hold) : (s.setHold h e).tariffs = s.tariffs := rfl
@[simp] theorem setHold_channels (s : State) (h : HoldIdx) (e : Hold) : (s.setHold h e).channels = s.channels := rfl
@[simp] theorem setHold_expiryRequests (s : State) (h : HoldIdx) (e : Hold) : (s.setHold h e).expiryRequests = s.expiryRequests := rfl
@[simp] theorem setHold_sweep (s : State) (h : HoldIdx) (e : Hold) : (s.setHold h e).sweep = s.sweep := rfl
@[simp] theorem setHold_device (s : State) (h : HoldIdx) (e : Hold) : (s.setHold h e).device = s.device := rfl
@[simp] theorem setHold_globalEnable (s : State) (h : HoldIdx) (e : Hold) : (s.setHold h e).globalEnable = s.globalEnable := rfl
@[simp] theorem setHold_stack (s : State) (h : HoldIdx) (e : Hold) : (s.setHold h e).stack = s.stack := rfl
@[simp] theorem setHold_faults (s : State) (h : HoldIdx) (e : Hold) : (s.setHold h e).faults = s.faults := rfl
@[simp] theorem setHold_phase (s : State) (h : HoldIdx) (e : Hold) : (s.setHold h e).phase = s.phase := rfl
@[simp] theorem setHold_startCause (s : State) (h : HoldIdx) (e : Hold) : (s.setHold h e).startCause = s.startCause := rfl
@[simp] theorem setHold_refPresent (s : State) (h : HoldIdx) (e : Hold) : (s.setHold h e).refPresent = s.refPresent := rfl
@[simp] theorem setHold_supplyNoticeOwed (s : State) (h : HoldIdx) (e : Hold) : (s.setHold h e).supplyNoticeOwed = s.supplyNoticeOwed := rfl
@[simp] theorem setHold_checkPosition (s : State) (h : HoldIdx) (e : Hold) : (s.setHold h e).checkPosition = s.checkPosition := rfl
@[simp] theorem setHold_retention (s : State) (h : HoldIdx) (e : Hold) : (s.setHold h e).retention = s.retention := rfl
@[simp] theorem setHold_divider (s : State) (h : HoldIdx) (e : Hold) : (s.setHold h e).divider = s.divider := rfl
@[simp] theorem setHold_resetN (s : State) (h : HoldIdx) (e : Hold) : (s.setHold h e).resetN = s.resetN := rfl
@[simp] theorem setHold_vbk (s : State) (h : HoldIdx) (e : Hold) : (s.setHold h e).vbk = s.vbk := rfl
@[simp] theorem setHold_port (s : State) (h : HoldIdx) (e : Hold) : (s.setHold h e).port = s.port := rfl
@[simp] theorem setHold_replay (s : State) (h : HoldIdx) (e : Hold) : (s.setHold h e).replay = s.replay := rfl
@[simp] theorem setHold_sdo (s : State) (h : HoldIdx) (e : Hold) : (s.setHold h e).sdo = s.sdo := rfl
@[simp] theorem setHold_choice (s : State) (h : HoldIdx) (e : Hold) : (s.setHold h e).choice = s.choice := rfl
@[simp] theorem setHold_pending (s : State) (h : HoldIdx) (e : Hold) : (s.setHold h e).pending = s.pending := rfl
@[simp] theorem setHold_account (s : State) (h : HoldIdx) (e : Hold) (j : Slot) : (s.setHold h e).account j = s.account j := rfl
@[simp] theorem setHold_pair (s : State) (h : HoldIdx) (e : Hold) (j : Slot) : (s.setHold h e).pair j = s.pair j := rfl
@[simp] theorem setHold_tariff (s : State) (h : HoldIdx) (e : Hold) (u : TariffIdx) : (s.setHold h e).tariff u = s.tariff u := rfl
@[simp] theorem setHold_channel (s : State) (h : HoldIdx) (e : Hold) (d : Chan) : (s.setHold h e).channel d = s.channel d := rfl

/-! mapChannels writes channels alone. -/

@[simp] theorem mapChannels_accounts (s : State) (f : Chan → Channel → Channel) : (s.mapChannels f).accounts = s.accounts := rfl
@[simp] theorem mapChannels_tagMap (s : State) (f : Chan → Channel → Channel) : (s.mapChannels f).tagMap = s.tagMap := rfl
@[simp] theorem mapChannels_tariffs (s : State) (f : Chan → Channel → Channel) : (s.mapChannels f).tariffs = s.tariffs := rfl
@[simp] theorem mapChannels_holds (s : State) (f : Chan → Channel → Channel) : (s.mapChannels f).holds = s.holds := rfl
@[simp] theorem mapChannels_expiryRequests (s : State) (f : Chan → Channel → Channel) : (s.mapChannels f).expiryRequests = s.expiryRequests := rfl
@[simp] theorem mapChannels_sweep (s : State) (f : Chan → Channel → Channel) : (s.mapChannels f).sweep = s.sweep := rfl
@[simp] theorem mapChannels_device (s : State) (f : Chan → Channel → Channel) : (s.mapChannels f).device = s.device := rfl
@[simp] theorem mapChannels_globalEnable (s : State) (f : Chan → Channel → Channel) : (s.mapChannels f).globalEnable = s.globalEnable := rfl
@[simp] theorem mapChannels_stack (s : State) (f : Chan → Channel → Channel) : (s.mapChannels f).stack = s.stack := rfl
@[simp] theorem mapChannels_faults (s : State) (f : Chan → Channel → Channel) : (s.mapChannels f).faults = s.faults := rfl
@[simp] theorem mapChannels_phase (s : State) (f : Chan → Channel → Channel) : (s.mapChannels f).phase = s.phase := rfl
@[simp] theorem mapChannels_startCause (s : State) (f : Chan → Channel → Channel) : (s.mapChannels f).startCause = s.startCause := rfl
@[simp] theorem mapChannels_refPresent (s : State) (f : Chan → Channel → Channel) : (s.mapChannels f).refPresent = s.refPresent := rfl
@[simp] theorem mapChannels_supplyNoticeOwed (s : State) (f : Chan → Channel → Channel) : (s.mapChannels f).supplyNoticeOwed = s.supplyNoticeOwed := rfl
@[simp] theorem mapChannels_checkPosition (s : State) (f : Chan → Channel → Channel) : (s.mapChannels f).checkPosition = s.checkPosition := rfl
@[simp] theorem mapChannels_retention (s : State) (f : Chan → Channel → Channel) : (s.mapChannels f).retention = s.retention := rfl
@[simp] theorem mapChannels_divider (s : State) (f : Chan → Channel → Channel) : (s.mapChannels f).divider = s.divider := rfl
@[simp] theorem mapChannels_resetN (s : State) (f : Chan → Channel → Channel) : (s.mapChannels f).resetN = s.resetN := rfl
@[simp] theorem mapChannels_vbk (s : State) (f : Chan → Channel → Channel) : (s.mapChannels f).vbk = s.vbk := rfl
@[simp] theorem mapChannels_port (s : State) (f : Chan → Channel → Channel) : (s.mapChannels f).port = s.port := rfl
@[simp] theorem mapChannels_replay (s : State) (f : Chan → Channel → Channel) : (s.mapChannels f).replay = s.replay := rfl
@[simp] theorem mapChannels_sdo (s : State) (f : Chan → Channel → Channel) : (s.mapChannels f).sdo = s.sdo := rfl
@[simp] theorem mapChannels_choice (s : State) (f : Chan → Channel → Channel) : (s.mapChannels f).choice = s.choice := rfl
@[simp] theorem mapChannels_pending (s : State) (f : Chan → Channel → Channel) : (s.mapChannels f).pending = s.pending := rfl
@[simp] theorem mapChannels_account (s : State) (f : Chan → Channel → Channel) (j : Slot) : (s.mapChannels f).account j = s.account j := rfl
@[simp] theorem mapChannels_pair (s : State) (f : Chan → Channel → Channel) (j : Slot) : (s.mapChannels f).pair j = s.pair j := rfl
@[simp] theorem mapChannels_tariff (s : State) (f : Chan → Channel → Channel) (u : TariffIdx) : (s.mapChannels f).tariff u = s.tariff u := rfl
@[simp] theorem mapChannels_hold (s : State) (f : Chan → Channel → Channel) (k : HoldIdx) : (s.mapChannels f).hold k = s.hold k := rfl

/-! mapHolds writes holds alone. -/

@[simp] theorem mapHolds_accounts (s : State) (f : HoldIdx → Hold → Hold) : (s.mapHolds f).accounts = s.accounts := rfl
@[simp] theorem mapHolds_tagMap (s : State) (f : HoldIdx → Hold → Hold) : (s.mapHolds f).tagMap = s.tagMap := rfl
@[simp] theorem mapHolds_tariffs (s : State) (f : HoldIdx → Hold → Hold) : (s.mapHolds f).tariffs = s.tariffs := rfl
@[simp] theorem mapHolds_channels (s : State) (f : HoldIdx → Hold → Hold) : (s.mapHolds f).channels = s.channels := rfl
@[simp] theorem mapHolds_expiryRequests (s : State) (f : HoldIdx → Hold → Hold) : (s.mapHolds f).expiryRequests = s.expiryRequests := rfl
@[simp] theorem mapHolds_sweep (s : State) (f : HoldIdx → Hold → Hold) : (s.mapHolds f).sweep = s.sweep := rfl
@[simp] theorem mapHolds_device (s : State) (f : HoldIdx → Hold → Hold) : (s.mapHolds f).device = s.device := rfl
@[simp] theorem mapHolds_globalEnable (s : State) (f : HoldIdx → Hold → Hold) : (s.mapHolds f).globalEnable = s.globalEnable := rfl
@[simp] theorem mapHolds_stack (s : State) (f : HoldIdx → Hold → Hold) : (s.mapHolds f).stack = s.stack := rfl
@[simp] theorem mapHolds_faults (s : State) (f : HoldIdx → Hold → Hold) : (s.mapHolds f).faults = s.faults := rfl
@[simp] theorem mapHolds_phase (s : State) (f : HoldIdx → Hold → Hold) : (s.mapHolds f).phase = s.phase := rfl
@[simp] theorem mapHolds_startCause (s : State) (f : HoldIdx → Hold → Hold) : (s.mapHolds f).startCause = s.startCause := rfl
@[simp] theorem mapHolds_refPresent (s : State) (f : HoldIdx → Hold → Hold) : (s.mapHolds f).refPresent = s.refPresent := rfl
@[simp] theorem mapHolds_supplyNoticeOwed (s : State) (f : HoldIdx → Hold → Hold) : (s.mapHolds f).supplyNoticeOwed = s.supplyNoticeOwed := rfl
@[simp] theorem mapHolds_checkPosition (s : State) (f : HoldIdx → Hold → Hold) : (s.mapHolds f).checkPosition = s.checkPosition := rfl
@[simp] theorem mapHolds_retention (s : State) (f : HoldIdx → Hold → Hold) : (s.mapHolds f).retention = s.retention := rfl
@[simp] theorem mapHolds_divider (s : State) (f : HoldIdx → Hold → Hold) : (s.mapHolds f).divider = s.divider := rfl
@[simp] theorem mapHolds_resetN (s : State) (f : HoldIdx → Hold → Hold) : (s.mapHolds f).resetN = s.resetN := rfl
@[simp] theorem mapHolds_vbk (s : State) (f : HoldIdx → Hold → Hold) : (s.mapHolds f).vbk = s.vbk := rfl
@[simp] theorem mapHolds_port (s : State) (f : HoldIdx → Hold → Hold) : (s.mapHolds f).port = s.port := rfl
@[simp] theorem mapHolds_replay (s : State) (f : HoldIdx → Hold → Hold) : (s.mapHolds f).replay = s.replay := rfl
@[simp] theorem mapHolds_sdo (s : State) (f : HoldIdx → Hold → Hold) : (s.mapHolds f).sdo = s.sdo := rfl
@[simp] theorem mapHolds_choice (s : State) (f : HoldIdx → Hold → Hold) : (s.mapHolds f).choice = s.choice := rfl
@[simp] theorem mapHolds_pending (s : State) (f : HoldIdx → Hold → Hold) : (s.mapHolds f).pending = s.pending := rfl
@[simp] theorem mapHolds_account (s : State) (f : HoldIdx → Hold → Hold) (j : Slot) : (s.mapHolds f).account j = s.account j := rfl
@[simp] theorem mapHolds_pair (s : State) (f : HoldIdx → Hold → Hold) (j : Slot) : (s.mapHolds f).pair j = s.pair j := rfl
@[simp] theorem mapHolds_tariff (s : State) (f : HoldIdx → Hold → Hold) (u : TariffIdx) : (s.mapHolds f).tariff u = s.tariff u := rfl
@[simp] theorem mapHolds_channel (s : State) (f : HoldIdx → Hold → Hold) (d : Chan) : (s.mapHolds f).channel d = s.channel d := rfl

/-! raiseDevice writes device alone. -/

@[simp] theorem raiseDevice_accounts (s : State) (cause : BitVec 16) : (s.raiseDevice cause).accounts = s.accounts := rfl
@[simp] theorem raiseDevice_tagMap (s : State) (cause : BitVec 16) : (s.raiseDevice cause).tagMap = s.tagMap := rfl
@[simp] theorem raiseDevice_tariffs (s : State) (cause : BitVec 16) : (s.raiseDevice cause).tariffs = s.tariffs := rfl
@[simp] theorem raiseDevice_channels (s : State) (cause : BitVec 16) : (s.raiseDevice cause).channels = s.channels := rfl
@[simp] theorem raiseDevice_holds (s : State) (cause : BitVec 16) : (s.raiseDevice cause).holds = s.holds := rfl
@[simp] theorem raiseDevice_expiryRequests (s : State) (cause : BitVec 16) : (s.raiseDevice cause).expiryRequests = s.expiryRequests := rfl
@[simp] theorem raiseDevice_sweep (s : State) (cause : BitVec 16) : (s.raiseDevice cause).sweep = s.sweep := rfl
@[simp] theorem raiseDevice_globalEnable (s : State) (cause : BitVec 16) : (s.raiseDevice cause).globalEnable = s.globalEnable := rfl
@[simp] theorem raiseDevice_stack (s : State) (cause : BitVec 16) : (s.raiseDevice cause).stack = s.stack := rfl
@[simp] theorem raiseDevice_faults (s : State) (cause : BitVec 16) : (s.raiseDevice cause).faults = s.faults := rfl
@[simp] theorem raiseDevice_phase (s : State) (cause : BitVec 16) : (s.raiseDevice cause).phase = s.phase := rfl
@[simp] theorem raiseDevice_startCause (s : State) (cause : BitVec 16) : (s.raiseDevice cause).startCause = s.startCause := rfl
@[simp] theorem raiseDevice_refPresent (s : State) (cause : BitVec 16) : (s.raiseDevice cause).refPresent = s.refPresent := rfl
@[simp] theorem raiseDevice_supplyNoticeOwed (s : State) (cause : BitVec 16) : (s.raiseDevice cause).supplyNoticeOwed = s.supplyNoticeOwed := rfl
@[simp] theorem raiseDevice_checkPosition (s : State) (cause : BitVec 16) : (s.raiseDevice cause).checkPosition = s.checkPosition := rfl
@[simp] theorem raiseDevice_retention (s : State) (cause : BitVec 16) : (s.raiseDevice cause).retention = s.retention := rfl
@[simp] theorem raiseDevice_divider (s : State) (cause : BitVec 16) : (s.raiseDevice cause).divider = s.divider := rfl
@[simp] theorem raiseDevice_resetN (s : State) (cause : BitVec 16) : (s.raiseDevice cause).resetN = s.resetN := rfl
@[simp] theorem raiseDevice_vbk (s : State) (cause : BitVec 16) : (s.raiseDevice cause).vbk = s.vbk := rfl
@[simp] theorem raiseDevice_port (s : State) (cause : BitVec 16) : (s.raiseDevice cause).port = s.port := rfl
@[simp] theorem raiseDevice_replay (s : State) (cause : BitVec 16) : (s.raiseDevice cause).replay = s.replay := rfl
@[simp] theorem raiseDevice_sdo (s : State) (cause : BitVec 16) : (s.raiseDevice cause).sdo = s.sdo := rfl
@[simp] theorem raiseDevice_choice (s : State) (cause : BitVec 16) : (s.raiseDevice cause).choice = s.choice := rfl
@[simp] theorem raiseDevice_pending (s : State) (cause : BitVec 16) : (s.raiseDevice cause).pending = s.pending := rfl
@[simp] theorem raiseDevice_account (s : State) (cause : BitVec 16) (j : Slot) : (s.raiseDevice cause).account j = s.account j := rfl
@[simp] theorem raiseDevice_pair (s : State) (cause : BitVec 16) (j : Slot) : (s.raiseDevice cause).pair j = s.pair j := rfl
@[simp] theorem raiseDevice_tariff (s : State) (cause : BitVec 16) (u : TariffIdx) : (s.raiseDevice cause).tariff u = s.tariff u := rfl
@[simp] theorem raiseDevice_channel (s : State) (cause : BitVec 16) (d : Chan) : (s.raiseDevice cause).channel d = s.channel d := rfl
@[simp] theorem raiseDevice_hold (s : State) (cause : BitVec 16) (k : HoldIdx) : (s.raiseDevice cause).hold k = s.hold k := rfl

/-! raiseFault writes faults alone. -/

@[simp] theorem raiseFault_accounts (s : State) (cause : BitVec 16) : (s.raiseFault cause).accounts = s.accounts := rfl
@[simp] theorem raiseFault_tagMap (s : State) (cause : BitVec 16) : (s.raiseFault cause).tagMap = s.tagMap := rfl
@[simp] theorem raiseFault_tariffs (s : State) (cause : BitVec 16) : (s.raiseFault cause).tariffs = s.tariffs := rfl
@[simp] theorem raiseFault_channels (s : State) (cause : BitVec 16) : (s.raiseFault cause).channels = s.channels := rfl
@[simp] theorem raiseFault_holds (s : State) (cause : BitVec 16) : (s.raiseFault cause).holds = s.holds := rfl
@[simp] theorem raiseFault_expiryRequests (s : State) (cause : BitVec 16) : (s.raiseFault cause).expiryRequests = s.expiryRequests := rfl
@[simp] theorem raiseFault_sweep (s : State) (cause : BitVec 16) : (s.raiseFault cause).sweep = s.sweep := rfl
@[simp] theorem raiseFault_device (s : State) (cause : BitVec 16) : (s.raiseFault cause).device = s.device := rfl
@[simp] theorem raiseFault_globalEnable (s : State) (cause : BitVec 16) : (s.raiseFault cause).globalEnable = s.globalEnable := rfl
@[simp] theorem raiseFault_stack (s : State) (cause : BitVec 16) : (s.raiseFault cause).stack = s.stack := rfl
@[simp] theorem raiseFault_phase (s : State) (cause : BitVec 16) : (s.raiseFault cause).phase = s.phase := rfl
@[simp] theorem raiseFault_startCause (s : State) (cause : BitVec 16) : (s.raiseFault cause).startCause = s.startCause := rfl
@[simp] theorem raiseFault_refPresent (s : State) (cause : BitVec 16) : (s.raiseFault cause).refPresent = s.refPresent := rfl
@[simp] theorem raiseFault_supplyNoticeOwed (s : State) (cause : BitVec 16) : (s.raiseFault cause).supplyNoticeOwed = s.supplyNoticeOwed := rfl
@[simp] theorem raiseFault_checkPosition (s : State) (cause : BitVec 16) : (s.raiseFault cause).checkPosition = s.checkPosition := rfl
@[simp] theorem raiseFault_retention (s : State) (cause : BitVec 16) : (s.raiseFault cause).retention = s.retention := rfl
@[simp] theorem raiseFault_divider (s : State) (cause : BitVec 16) : (s.raiseFault cause).divider = s.divider := rfl
@[simp] theorem raiseFault_resetN (s : State) (cause : BitVec 16) : (s.raiseFault cause).resetN = s.resetN := rfl
@[simp] theorem raiseFault_vbk (s : State) (cause : BitVec 16) : (s.raiseFault cause).vbk = s.vbk := rfl
@[simp] theorem raiseFault_port (s : State) (cause : BitVec 16) : (s.raiseFault cause).port = s.port := rfl
@[simp] theorem raiseFault_replay (s : State) (cause : BitVec 16) : (s.raiseFault cause).replay = s.replay := rfl
@[simp] theorem raiseFault_sdo (s : State) (cause : BitVec 16) : (s.raiseFault cause).sdo = s.sdo := rfl
@[simp] theorem raiseFault_choice (s : State) (cause : BitVec 16) : (s.raiseFault cause).choice = s.choice := rfl
@[simp] theorem raiseFault_pending (s : State) (cause : BitVec 16) : (s.raiseFault cause).pending = s.pending := rfl
@[simp] theorem raiseFault_account (s : State) (cause : BitVec 16) (j : Slot) : (s.raiseFault cause).account j = s.account j := rfl
@[simp] theorem raiseFault_pair (s : State) (cause : BitVec 16) (j : Slot) : (s.raiseFault cause).pair j = s.pair j := rfl
@[simp] theorem raiseFault_tariff (s : State) (cause : BitVec 16) (u : TariffIdx) : (s.raiseFault cause).tariff u = s.tariff u := rfl
@[simp] theorem raiseFault_channel (s : State) (cause : BitVec 16) (d : Chan) : (s.raiseFault cause).channel d = s.channel d := rfl
@[simp] theorem raiseFault_hold (s : State) (cause : BitVec 16) (k : HoldIdx) : (s.raiseFault cause).hold k = s.hold k := rfl

/-! What the tables read after a write of them. -/

theorem setAccount_account (s : State) (i j : Slot) (a : Account) :
    (s.setAccount i a).account j = if i = j then { a with syndrome := 0 } else s.account j := get_set _ i j _

theorem setPair_pair (s : State) (i j : Slot) (p : Option MapPair) :
    (s.setPair i p).pair j = if i = j then p else s.pair j := get_set _ i j _

theorem setTariff_tariff (s : State) (t u : TariffIdx) (e : Tariff) :
    (s.setTariff t e).tariff u = if t = u then e else s.tariff u := get_set _ t u _

theorem setChannel_channel (s : State) (c d : Chan) (ch : Channel) :
    (s.setChannel c ch).channel d = if c = d then ch else s.channel d := get_set _ c d _

theorem setHold_hold (s : State) (h k : HoldIdx) (e : Hold) :
    (s.setHold h e).hold k = if h = k then e else s.hold k := get_set _ h k _

@[simp] theorem setAccount_account_same (s : State) (i : Slot) (a : Account) :
    (s.setAccount i a).account i = { a with syndrome := 0 } := by simp [setAccount_account]

@[simp] theorem setPair_pair_same (s : State) (i : Slot) (p : Option MapPair) : (s.setPair i p).pair i = p := by
  simp [setPair_pair]

@[simp] theorem setTariff_tariff_same (s : State) (t : TariffIdx) (e : Tariff) : (s.setTariff t e).tariff t = e := by
  simp [setTariff_tariff]

@[simp] theorem setChannel_channel_same (s : State) (c : Chan) (ch : Channel) : (s.setChannel c ch).channel c = ch := by
  simp [setChannel_channel]

@[simp] theorem setHold_hold_same (s : State) (h : HoldIdx) (e : Hold) : (s.setHold h e).hold h = e := by
  simp [setHold_hold]

@[simp] theorem mapChannels_channel (s : State) (f : Chan → Channel → Channel) (c : Chan) :
    (s.mapChannels f).channel c = f c (s.channel c) := get_tabulate _ c

@[simp] theorem mapHolds_hold (s : State) (f : HoldIdx → Hold → Hold) (h : HoldIdx) :
    (s.mapHolds f).hold h = f h (s.hold h) := get_tabulate _ h

@[simp] theorem mapBound_channel (s : State) (i : Slot) (f : Channel → Channel) (c : Chan) :
    (s.mapBound i f).channel c = if (s.channel c).boundTo i then f (s.channel c) else s.channel c := get_tabulate _ c

/-! What damage leaves in each table (R147). -/

theorem damage_pair (s : State) (i j : Slot) :
    (s.damage i).pair j = if i = j then (s.pair i).map (fun p => { p with state := .damaged }) else s.pair j := by
  unfold State.damage
  exact setPair_pair s i j _

theorem damage_account (s : State) (i j : Slot) :
    (s.damage i).account j = if i = j then { (s.account i).foundDamaged with syndrome := 0 } else s.account j :=
  setAccount_account _ i j (s.account i).foundDamaged

theorem damage_channel (s : State) (i : Slot) (c : Chan) :
    (s.damage i).channel c = s.damageChannel i c (s.channel c) :=
  mapChannels_channel _ (s.damageChannel i) c

theorem damage_hold (s : State) (i : Slot) (h : HoldIdx) : (s.damage i).hold h = (s.hold h).damage i :=
  mapHolds_hold _ (fun _ e => e.damage i) h

theorem damage_faults (s : State) (i : Slot) : (s.damage i).faults = s.faults.countDamage := rfl

/-- A record that reads sound is given to the request, and the read changes nothing. -/
theorem readRecord_sound {s : State} {i : Slot} (h1 : s.mapState i ≠ .free) (h2 : s.mapState i ≠ .damaged)
    (h3 : (s.account i).syndrome = 0) : s.readRecord i = (s, .sound (s.account i)) := by
  simp [State.readRecord, h1, h2, h3]

/-- A slot the map holds FREE is not read. -/
theorem readRecord_free {s : State} {i : Slot} (h : s.mapState i = .free) : s.readRecord i = (s, .free) := by
  simp [State.readRecord, h]

/-- A slot the map holds DAMAGED is not read. -/
theorem readRecord_damaged {s : State} {i : Slot} (h : s.mapState i = .damaged) : s.readRecord i = (s, .damaged) := by
  simp [State.readRecord, h]

/-- A mismatch has the consequences of damage. -/
theorem readRecord_mismatched {s : State} {i : Slot} (h1 : s.mapState i ≠ .free) (h2 : s.mapState i ≠ .damaged)
    (h3 : (s.account i).syndrome ≠ 0) : s.readRecord i = (s.damage i, .damaged) := by
  rw [State.readRecord, if_neg h1, if_neg h2, if_neg h3]

end Sys2Proof.Laws
end

