-- ==== Sys2Proof/Laws/Frames.lean ====
section
/-! SUPPORT. The frame of the shared operations: what reading a record, damage, the freeing of holds, the settle sequence
and a charge leave alone. -/

namespace Sys2Proof.Laws

open Sys2Proof.Machine

/-- `t` differs from `s` in the records, the tag map, the channels, the hold entries and the fault record alone. -/
structure SameOutside (s t : State) : Prop where
  tariffs : t.tariffs = s.tariffs
  expiryRequests : t.expiryRequests = s.expiryRequests
  sweep : t.sweep = s.sweep
  device : t.device = s.device
  globalEnable : t.globalEnable = s.globalEnable
  stack : t.stack = s.stack
  phase : t.phase = s.phase
  startCause : t.startCause = s.startCause
  refPresent : t.refPresent = s.refPresent
  supplyNoticeOwed : t.supplyNoticeOwed = s.supplyNoticeOwed
  checkPosition : t.checkPosition = s.checkPosition
  retention : t.retention = s.retention
  divider : t.divider = s.divider
  resetN : t.resetN = s.resetN
  vbk : t.vbk = s.vbk
  port : t.port = s.port
  replay : t.replay = s.replay
  sdo : t.sdo = s.sdo
  choice : t.choice = s.choice
  pending : t.pending = s.pending

theorem SameOutside.refl (s : State) : SameOutside s s := by constructor <;> rfl

theorem SameOutside.trans {s t u : State} (h : SameOutside s t) (k : SameOutside t u) : SameOutside s u where
  tariffs := k.tariffs.trans h.tariffs
  expiryRequests := k.expiryRequests.trans h.expiryRequests
  sweep := k.sweep.trans h.sweep
  device := k.device.trans h.device
  globalEnable := k.globalEnable.trans h.globalEnable
  stack := k.stack.trans h.stack
  phase := k.phase.trans h.phase
  startCause := k.startCause.trans h.startCause
  refPresent := k.refPresent.trans h.refPresent
  supplyNoticeOwed := k.supplyNoticeOwed.trans h.supplyNoticeOwed
  checkPosition := k.checkPosition.trans h.checkPosition
  retention := k.retention.trans h.retention
  divider := k.divider.trans h.divider
  resetN := k.resetN.trans h.resetN
  vbk := k.vbk.trans h.vbk
  port := k.port.trans h.port
  replay := k.replay.trans h.replay
  sdo := k.sdo.trans h.sdo
  choice := k.choice.trans h.choice
  pending := k.pending.trans h.pending

theorem setAccount_outside (s : State) (i : Slot) (a : Account) : SameOutside s (s.setAccount i a) := by constructor <;> rfl
theorem setPair_outside (s : State) (i : Slot) (p : Option MapPair) : SameOutside s (s.setPair i p) := by constructor <;> rfl
theorem setChannel_outside (s : State) (c : Chan) (ch : Channel) : SameOutside s (s.setChannel c ch) := by constructor <;> rfl
theorem setHold_outside (s : State) (h : HoldIdx) (e : Hold) : SameOutside s (s.setHold h e) := by constructor <;> rfl
theorem raiseFault_outside (s : State) (cause : BitVec 16) : SameOutside s (s.raiseFault cause) := by constructor <;> rfl
theorem modifyAccount_outside (s : State) (i : Slot) (f : Account → Account) : SameOutside s (s.modifyAccount i f) :=
  setAccount_outside s i _
theorem modifyChannel_outside (s : State) (c : Chan) (f : Channel → Channel) : SameOutside s (s.modifyChannel c f) :=
  setChannel_outside s c _
theorem modifyHold_outside (s : State) (h : HoldIdx) (f : Hold → Hold) : SameOutside s (s.modifyHold h f) :=
  setHold_outside s h _
theorem raiseAccount_outside (s : State) (i : Slot) (cause : BitVec 16) : SameOutside s (s.raiseAccount i cause) :=
  modifyAccount_outside s i _
theorem mapChannels_outside (s : State) (f : Chan → Channel → Channel) : SameOutside s (s.mapChannels f) := by
  constructor <;> simp
theorem mapBound_outside (s : State) (i : Slot) (f : Channel → Channel) : SameOutside s (s.mapBound i f) :=
  mapChannels_outside s _
theorem mapHolds_outside (s : State) (f : HoldIdx → Hold → Hold) : SameOutside s (s.mapHolds f) := by
  constructor <;> simp

theorem endDrawing_outside (s : State) (c : Option Chan) : SameOutside s (s.endDrawing c) := by
  cases c with
  | none => exact .refl s
  | some c => exact setChannel_outside s c _

theorem freeHold_outside (s : State) (i : Slot) (h : HoldIdx) : SameOutside s (s.freeHold i h) :=
  ((modifyAccount_outside s i _).trans (endDrawing_outside _ _)).trans (setHold_outside _ h _)

theorem stopDrawing_outside (s : State) (c : Chan) : SameOutside s (s.stopDrawing c) := by
  unfold State.stopDrawing
  cases s.drawnHold c with
  | none => exact modifyChannel_outside s c _
  | some h => exact (modifyHold_outside s h _).trans (modifyChannel_outside _ c _)

theorem damage_outside (s : State) (i : Slot) : SameOutside s (s.damage i) := by
  constructor <;> simp [State.damage, State.modifyAccount]

theorem readRecord_outside (s : State) (i : Slot) : SameOutside s (s.readRecord i).1 := by
  unfold State.readRecord
  split_ifs
  · exact .refl s
  · exact .refl s
  · exact .refl s
  · exact damage_outside s i

theorem setLife_outside (s : State) (i : Slot) (l : LifeState) : SameOutside s (s.setLife i l) :=
  (setPair_outside s i _).trans (modifyAccount_outside _ i _)

theorem lowerDependents_outside (s : State) (p : Slot) : SameOutside s (s.lowerDependents p) := by
  have hr := readRecord_outside s p
  unfold State.lowerDependents
  split
  · next h => rw [h] at hr; exact hr.trans (setAccount_outside _ p _)
  · next h => rw [h] at hr; exact hr.trans (modifyAccount_outside _ p _)
  · next h => rw [h] at hr; exact hr

theorem dropRefill_outside (s : State) (i : Slot) : SameOutside s (s.dropRefill i) := by
  unfold State.dropRefill
  split
  · exact (modifyAccount_outside s i _).trans (lowerDependents_outside _ _)
  · exact .refl s

theorem readPool_outside (s : State) (p : Slot) : SameOutside s (s.readPool p).1 := by
  have hr := readRecord_outside s p
  unfold State.readPool
  split
  · next h => rw [h] at hr; exact hr
  · next h => rw [h] at hr; exact hr
  · next h => rw [h] at hr; exact hr

theorem refillAttempt_outside (s : State) (i : Slot) (r : RefillSpec) : SameOutside s (s.refillAttempt i r) := by
  have hr := readRecord_outside s r.pool
  unfold State.refillAttempt
  split
  · next s1 p h =>
    rw [h] at hr
    dsimp only
    split_ifs
    · exact hr
    · exact (hr.trans (raiseAccount_outside _ _ _)).trans (raiseAccount_outside _ _ _)
    · exact (hr.trans (modifyAccount_outside _ _ _)).trans (modifyAccount_outside _ _ _)
    · exact hr.trans (raiseAccount_outside _ _ _)
  · next s1 h => rw [h] at hr; exact hr.trans (raiseAccount_outside _ _ _)
  · next s1 h => rw [h] at hr; exact hr.trans (raiseAccount_outside _ _ _)

theorem refillStage_outside (s : State) (i : Slot) : SameOutside s (s.refillStage i) := by
  unfold State.refillStage
  split_ifs
  · split
    · exact refillAttempt_outside s i _
    · exact .refl s
  · exact .refl s

theorem breakHolds_outside (n : Nat) (s : State) (i : Slot) : SameOutside s (State.breakHolds n s i) := by
  induction n generalizing s with
  | zero => exact .refl s
  | succ n ih =>
    unfold State.breakHolds
    split_ifs
    · split
      · exact (freeHold_outside s i _).trans (ih _)
      · exact .refl s
    · exact .refl s

theorem breakStage_outside (s : State) (i : Slot) : SameOutside s (s.breakStage i) := by
  unfold State.breakStage
  split_ifs
  · exact (breakHolds_outside _ s i).trans (raiseAccount_outside _ _ _)
  · exact .refl s

theorem postEmpty_outside (s : State) (i : Slot) (was : Bool) : SameOutside s (s.postEmpty i was) := by
  unfold State.postEmpty
  dsimp only
  split_ifs
  · exact .refl s
  · exact mapBound_outside s i _
  · exact mapBound_outside s i _

theorem settle_outside (s : State) (i : Slot) : SameOutside s (s.settle i) :=
  (((refillStage_outside s i).trans (breakStage_outside _ i)).trans (modifyAccount_outside _ i _)).trans
    (postEmpty_outside _ i _)

theorem drawPart_outside (s : State) (i : Slot) (h : HoldIdx) (drawn : Nat) : SameOutside s (s.drawPart i h drawn) := by
  have h1 := (modifyAccount_outside s i
    (fun a => { a.debit drawn with heldTotal := a.heldTotal - drawn })).trans
    (modifyHold_outside _ h (fun e => { e with amount := e.amount - drawn }))
  unfold State.drawPart
  dsimp only
  split_ifs
  · exact (h1.trans (freeHold_outside _ i h)).trans (raiseAccount_outside _ i _)
  · exact h1

theorem importCharge_outside (s : State) (c : Chan) (i : Slot) (amount : Nat) :
    SameOutside s (s.importCharge c i amount).1 := by
  unfold State.importCharge
  split
  · dsimp only
    split_ifs
    · exact drawPart_outside s i _ _
    · exact (drawPart_outside s i _ _).trans (modifyAccount_outside _ i _)
  · exact modifyAccount_outside s i _

theorem applyCharge_outside (s : State) (c : Chan) (i : Slot) (flow : Flow) (amount : Nat) :
    SameOutside s (s.applyCharge c i flow amount).1 := by
  cases flow with
  | imp => exact importCharge_outside s c i amount
  | exp => exact modifyAccount_outside s i _

theorem chargeQuantity_outside (s : State) (c : Chan) (flow : Flow) (q : Nat) :
    SameOutside s (s.chargeQuantity c flow q).1 := by
  unfold State.chargeQuantity
  dsimp only
  split_ifs
  · exact .refl s
  · exact (applyCharge_outside s c _ flow _).trans (settle_outside _ _)

theorem chargeDeferred_outside (s : State) (c : Chan) (flow : Flow) : SameOutside s (s.chargeDeferred c flow).1 :=
  (modifyChannel_outside s c _).trans (chargeQuantity_outside _ c flow _)

theorem chargeBoth_outside (s : State) (c : Chan) : SameOutside s (s.chargeBoth c).1 :=
  (chargeDeferred_outside s c .imp).trans (chargeDeferred_outside _ c .exp)

end Sys2Proof.Laws
end

