-- ==== Sys2Proof/Laws/Accounts.lean ====
section
/-! SUPPORT. What the shared operations can do to an account record and to its pair: they move the balance, never above the
ceiling, they change holds, flags and causes, or they find it damaged. -/

namespace Sys2Proof.Laws

open Sys2Proof.Machine

/-- What a request that settles an account may leave of a record: its identity and limits as they were, its state as it was
or DAMAGED, and its balance no higher than it was or than the ceiling. -/
structure Moved (a b : Account) : Prop where
  state : b.state = a.state ∨ b.state = .damaged
  tag : b.tag = a.tag
  kind : b.kind = a.kind
  cls : b.cls = a.cls
  floor : b.floor = a.floor
  lowMark : b.lowMark = a.lowMark
  ceiling : b.ceiling = a.ceiling
  lastSweep : b.lastSweep = a.lastSweep
  bindingCount : b.bindingCount = a.bindingCount
  balance : b.balance ≤ max a.balance a.ceiling

theorem Moved.refl (a : Account) : Moved a a := by
  constructor <;> simp

theorem Moved.trans {a b c : Account} (h : Moved a b) (k : Moved b c) : Moved a c where
  state := by
    rcases k.state with e | e
    · rw [e]; exact h.state
    · exact .inr e
  tag := k.tag.trans h.tag
  kind := k.kind.trans h.kind
  cls := k.cls.trans h.cls
  floor := k.floor.trans h.floor
  lowMark := k.lowMark.trans h.lowMark
  ceiling := k.ceiling.trans h.ceiling
  lastSweep := k.lastSweep.trans h.lastSweep
  bindingCount := k.bindingCount.trans h.bindingCount
  balance := by
    have h1 := h.balance; have h2 := k.balance; have h3 := h.ceiling
    omega

theorem evaluate_moved (a : Account) : Moved a a.evaluate := by
  constructor <;> simp [Account.evaluate]

theorem debit_moved (n : Nat) (a : Account) : Moved a (a.debit n) := by
  constructor <;> simp [Account.debit]

theorem usageDebit_moved (n : Nat) (a : Account) : Moved a (a.usageDebit n) := by
  unfold Account.usageDebit
  dsimp only
  split_ifs
  · exact (debit_moved (a.debitApplied n) a).trans (by constructor <;> simp)
  · exact debit_moved _ a

theorem credit_moved (n : Nat) (a : Account) (h : (n : Int) ≤ a.headroom) : Moved a (a.credit n) := by
  constructor <;> simp [Account.credit, Account.headroom] at *
  omega

theorem clampedCredit_moved (n : Nat) (a : Account) : Moved a (a.clampedCredit n) := by
  have h : ((a.creditApplied n : Nat) : Int) ≤ a.headroom := by
    have := Nat.min_le_right n a.headroom
    unfold Account.creditApplied
    omega
  unfold Account.clampedCredit
  dsimp only
  split_ifs
  · exact (credit_moved _ a h).trans (by constructor <;> simp)
  · exact credit_moved _ a h

theorem refilled_moved (r : RefillSpec) (n : Nat) (a : Account) (h : (n : Int) ≤ a.headroom) :
    Moved a (Account.refilled r n a) := by
  unfold Account.refilled
  dsimp only
  split_ifs
  · exact credit_moved n a h
  · exact (credit_moved n a h).trans (by constructor <;> simp)
  · exact (credit_moved n a h).trans (by constructor <;> simp)

/-- A pair of the map stands, or it is marked DAMAGED. -/
def PairKept (p q : Option MapPair) : Prop := q = p ∨ q = p.map (fun p => { p with state := .damaged })

theorem PairKept.trans {p q r : Option MapPair} (h : PairKept p q) (k : PairKept q r) : PairKept p r := by
  rcases h with rfl | rfl <;> rcases k with rfl | rfl
  · exact .inl rfl
  · exact .inr rfl
  · exact .inr rfl
  · right; cases p <;> rfl

/-- From `s` to `t` every record is at most moved and every pair is kept. -/
structure RecordsMoved (s t : State) : Prop where
  account : ∀ j, Moved (s.account j) (t.account j)
  pair : ∀ j, PairKept (s.pair j) (t.pair j)

theorem RecordsMoved.refl (s : State) : RecordsMoved s s := ⟨fun _ => .refl _, fun _ => .inl rfl⟩

theorem RecordsMoved.trans {s t u : State} (h : RecordsMoved s t) (k : RecordsMoved t u) : RecordsMoved s u :=
  ⟨fun j => (h.account j).trans (k.account j), fun j => (h.pair j).trans (k.pair j)⟩

theorem modifyAccount_moved {s : State} {i : Slot} {f : Account → Account}
    (h : Moved (s.account i) { f (s.account i) with syndrome := 0 }) : RecordsMoved s (s.modifyAccount i f) where
  account j := by
    rw [State.modifyAccount, setAccount_account]
    split_ifs with e
    · subst e; exact h
    · exact .refl _
  pair _ := .inl rfl

/-- The check word of a record written is no part of what `Moved` speaks of. -/
theorem Moved.written {a b : Account} (h : Moved a b) : Moved a { b with syndrome := 0 } :=
  h.trans (by constructor <;> simp)

theorem raiseAccount_moved (s : State) (i : Slot) (cause : BitVec 16) : RecordsMoved s (s.raiseAccount i cause) :=
  modifyAccount_moved (by constructor <;> simp)

theorem freeHold_moved (s : State) (i : Slot) (h : HoldIdx) : RecordsMoved s (s.freeHold i h) := by
  have k : RecordsMoved s (s.modifyAccount i (fun a =>
      { a with holdList := a.holdList.erase h, heldTotal := a.heldTotal - (s.hold h).amount })) :=
    modifyAccount_moved (by constructor <;> simp)
  unfold State.freeHold State.endDrawing
  dsimp only
  split <;> exact ⟨k.account, k.pair⟩

theorem damage_moved (s : State) (i : Slot) : RecordsMoved s (s.damage i) where
  account j := by
    rw [damage_account]
    split_ifs with e
    · subst e
      constructor <;> simp [Account.foundDamaged]
    · exact .refl _
  pair j := by
    rw [damage_pair]
    split_ifs with e
    · subst e; exact .inr rfl
    · exact .inl rfl

theorem readRecord_moved (s : State) (i : Slot) : RecordsMoved s (s.readRecord i).1 := by
  unfold State.readRecord
  split_ifs
  · exact .refl s
  · exact .refl s
  · exact .refl s
  · exact damage_moved s i

theorem lowerDependents_moved (s : State) (p : Slot) : RecordsMoved s (s.lowerDependents p) := by
  have hr := readRecord_moved s p
  unfold State.lowerDependents State.readRecord
  split_ifs with h1 h2 h3
  · exact .refl s
  · exact modifyAccount_moved (by constructor <;> simp)
  · exact modifyAccount_moved (s := s) (f := fun a => { a with dependents := a.dependents - 1 }) (by constructor <;> simp)
  · exact (damage_moved s p).trans (modifyAccount_moved (by constructor <;> simp))

theorem dropRefill_moved (s : State) (i : Slot) : RecordsMoved s (s.dropRefill i) := by
  unfold State.dropRefill
  split
  · exact RecordsMoved.trans (modifyAccount_moved (by constructor <;> simp)) (lowerDependents_moved _ _)
  · exact .refl s

theorem readPool_moved (s : State) (p : Slot) : RecordsMoved s (s.readPool p).1 := by
  have hr := readRecord_moved s p
  unfold State.readPool
  split
  · next e => rw [e] at hr; exact hr
  · next e => rw [e] at hr; exact hr
  · next e => rw [e] at hr; exact hr

theorem refillAttempt_moved (s : State) (i : Slot) (r : RefillSpec) : RecordsMoved s (s.refillAttempt i r) := by
  have hr := readRecord_moved s r.pool
  unfold State.refillAttempt
  split
  · next s1 p e =>
    rw [e] at hr
    dsimp only
    split_ifs
    · exact hr
    · exact (hr.trans (raiseAccount_moved _ _ _)).trans (raiseAccount_moved _ _ _)
    · refine (hr.trans (modifyAccount_moved ((debit_moved _ _).trans (evaluate_moved _)).written)).trans
        (modifyAccount_moved (refilled_moved _ _ _ ?_).written)
      have hd : (s1.account i).headroom ≤
          ((s1.modifyAccount r.pool (fun p => (p.debit (min r.amount (s1.account i).headroom)).evaluate)).account i).headroom := by
        rw [State.modifyAccount, setAccount_account]
        split_ifs with e2
        · subst e2
          simp only [Account.headroom, Account.evaluate, Account.debit]
          omega
        · exact le_rfl
      have := Nat.min_le_right r.amount (s1.account i).headroom
      exact_mod_cast this.trans hd
    · exact hr.trans (raiseAccount_moved _ _ _)
  · next e => rw [e] at hr; exact hr.trans (raiseAccount_moved _ _ _)
  · next e => rw [e] at hr; exact hr.trans (raiseAccount_moved _ _ _)

theorem refillStage_moved (s : State) (i : Slot) : RecordsMoved s (s.refillStage i) := by
  unfold State.refillStage
  split_ifs
  · split
    · exact refillAttempt_moved s i _
    · exact .refl s
  · exact .refl s

theorem breakHolds_moved (n : Nat) (s : State) (i : Slot) : RecordsMoved s (State.breakHolds n s i) := by
  induction n generalizing s with
  | zero => exact .refl s
  | succ n ih =>
    unfold State.breakHolds
    split_ifs
    · split
      · exact (freeHold_moved s i _).trans (ih _)
      · exact .refl s
    · exact .refl s

theorem breakStage_moved (s : State) (i : Slot) : RecordsMoved s (s.breakStage i) := by
  unfold State.breakStage
  split_ifs
  · exact (breakHolds_moved _ s i).trans (raiseAccount_moved _ _ _)
  · exact .refl s

theorem postEmpty_moved (s : State) (i : Slot) (was : Bool) : RecordsMoved s (s.postEmpty i was) := by
  unfold State.postEmpty
  dsimp only
  split_ifs
  · exact .refl s
  · exact ⟨fun _ => .refl _, fun _ => .inl rfl⟩
  · exact ⟨fun _ => .refl _, fun _ => .inl rfl⟩

/-- The settle sequence at most moves records, and keeps the map but for damage found. -/
theorem settle_moved (s : State) (i : Slot) : RecordsMoved s (s.settle i) :=
  (((refillStage_moved s i).trans (breakStage_moved _ i)).trans (modifyAccount_moved (evaluate_moved _).written)).trans
    (postEmpty_moved _ i _)

theorem drawPart_moved (s : State) (i : Slot) (h : HoldIdx) (n : Nat) : RecordsMoved s (s.drawPart i h n) := by
  have k : RecordsMoved s ((s.modifyAccount i (fun a => { a.debit n with heldTotal := a.heldTotal - n })).modifyHold h
      (fun e => { e with amount := e.amount - n })) := by
    have k1 : RecordsMoved s (s.modifyAccount i (fun a => { a.debit n with heldTotal := a.heldTotal - n })) :=
      modifyAccount_moved ((debit_moved n _).trans (by constructor <;> simp))
    exact ⟨k1.account, k1.pair⟩
  unfold State.drawPart
  dsimp only
  split_ifs
  · exact (k.trans (freeHold_moved _ i h)).trans (raiseAccount_moved _ i _)
  · exact k

theorem applyCharge_moved (s : State) (c : Chan) (i : Slot) (flow : Flow) (n : Nat) :
    RecordsMoved s (s.applyCharge c i flow n).1 := by
  cases flow with
  | imp =>
    show RecordsMoved s (s.importCharge c i n).1
    unfold State.importCharge
    split
    · dsimp only
      split_ifs
      · exact drawPart_moved s i _ _
      · exact (drawPart_moved s i _ _).trans (modifyAccount_moved (usageDebit_moved _ _).written)
    · exact modifyAccount_moved (usageDebit_moved _ _).written
  | exp => exact modifyAccount_moved (clampedCredit_moved _ _).written

/-- A charge at most moves records. -/
theorem chargeQuantity_moved (s : State) (c : Chan) (flow : Flow) (q : Nat) :
    RecordsMoved s (s.chargeQuantity c flow q).1 := by
  unfold State.chargeQuantity
  dsimp only
  split_ifs
  · exact .refl s
  · exact (applyCharge_moved s c _ flow _).trans (settle_moved _ _)

theorem chargeDeferred_moved (s : State) (c : Chan) (flow : Flow) : RecordsMoved s (s.chargeDeferred c flow).1 :=
  RecordsMoved.trans (t := s.modifyChannel c (Channel.setDeferred flow 0)) ⟨fun _ => .refl _, fun _ => .inl rfl⟩
    (chargeQuantity_moved _ c flow _)

theorem chargeBoth_moved (s : State) (c : Chan) : RecordsMoved s (s.chargeBoth c).1 :=
  (chargeDeferred_moved s c .imp).trans (chargeDeferred_moved _ c .exp)

end Sys2Proof.Laws
end

