-- ==== Sys2Proof/Laws/Channels.lean ====
section
/-! SUPPORT. What the shared operations can do to a channel: they end its drawing, park it for damage, post EMPTY events to
it, and return a charged quantity to zero; any property closed under these is kept, and no event of a charge changes a
channel's deferred quantities. -/

namespace Sys2Proof.Laws

open Sys2Proof.Machine

/-- A property of the channels that damage, the end of a drawing and the EMPTY events keep. -/
structure ChannelClosed (live : Bool) (P : Chan → Channel → Prop) : Prop where
  drawing : ∀ c ch, P c ch → P c { ch with drawing := none }
  park : ∀ c ch, ch.bound = true → P c ch → P c (ch.parkDamaged live)
  entered : ∀ c ch, ch.bound = true → P c ch → P c ch.emptyEntered
  left : ∀ c ch, ch.bound = true → P c ch → P c (ch.emptyLeft live)

/-- A property of every channel of a state. -/
def AllChannels (P : Chan → Channel → Prop) (s : State) : Prop := ∀ c, P c (s.channel c)

theorem noticesLive_eq {s t : State} (h : SameOutside s t) : t.noticesLive = s.noticesLive := by
  simp [State.noticesLive, h.phase]

theorem boundTo_bound {i : Slot} {ch : Channel} (h : ch.boundTo i = true) : ch.bound = true := by
  simp [Channel.boundTo] at h
  exact h.1

/-- A deferral neither reads nor changes the untaken requests. -/
theorem defer_withRequests (ch : Channel) (l : List UsageRequest) (flow : Flow) (q : Nat) :
    ({ ch with requests := l }).defer flow q = { ch.defer flow q with requests := l } := by
  cases flow <;> unfold Channel.defer Channel.deferred <;> dsimp only <;> split_ifs <;> rfl

theorem defer_requests (ch : Channel) (flow : Flow) (q : Nat) : (ch.defer flow q).requests = ch.requests := by
  cases flow <;> unfold Channel.defer <;> split_ifs <;> rfl

theorem evaluate_deferred (ch : Channel) (flow : Flow) : ch.evaluate.deferred flow = ch.deferred flow := by
  unfold Channel.evaluate
  split
  · rfl
  · unfold Channel.runDry
    cases flow <;> split <;> (repeat' split) <;> rfl

theorem notify_deferred (live : Bool) (ch : Channel) (flow : Flow) : (ch.notify live).deferred flow = ch.deferred flow := by
  unfold Channel.notify
  split_ifs
  · exact evaluate_deferred ch flow
  · rfl

/-- Damage, the end of a drawing and the EMPTY events leave a channel's deferred quantities as they stand. -/
theorem deferred_closed (live : Bool) (flow : Flow) (v : Chan → Nat) :
    ChannelClosed live (fun c ch => ch.deferred flow = v c) where
  drawing := fun _ _ h => by cases flow <;> exact h
  park := fun c ch _ h => by
    refine Eq.trans ?_ h
    unfold Channel.parkDamaged Channel.park
    split_ifs
    · exact (notify_deferred _ _ _).trans (by cases flow <;> rfl)
    · rfl
    · cases flow <;> rfl
  entered := fun c ch _ h => by
    refine Eq.trans ?_ h
    unfold Channel.emptyEntered Channel.runDry
    cases flow <;> dsimp only <;> split <;> (try split_ifs) <;> rfl
  left := fun c ch _ h => by
    refine Eq.trans ?_ h
    unfold Channel.emptyLeft
    dsimp only
    split
    · cases flow <;> rfl
    · cases flow <;> rfl
    · exact (notify_deferred _ _ _).trans (by cases flow <;> rfl)

section
variable {P : Chan → Channel → Prop} {s : State}

theorem AllChannels.modifyChannel {c : Chan} {f : Channel → Channel} (hf : ∀ ch, P c ch → P c (f ch))
    (h : AllChannels P s) : AllChannels P (s.modifyChannel c f) := by
  intro d
  rw [State.modifyChannel, setChannel_channel]
  split_ifs with e
  · subst e; exact hf _ (h _)
  · exact h d

theorem AllChannels.mapBound {i : Slot} {f : Channel → Channel} (hf : ∀ c ch, ch.bound = true → P c ch → P c (f ch))
    (h : AllChannels P s) : AllChannels P (s.mapBound i f) := by
  intro d
  rw [mapBound_channel]
  split_ifs with e
  · exact hf d _ (boundTo_bound e) (h d)
  · exact h d

theorem AllChannels.freeHold (k : ChannelClosed s.noticesLive P) (h : AllChannels P s) (i : Slot) (x : HoldIdx) :
    AllChannels P (s.freeHold i x) := by
  unfold State.freeHold State.endDrawing
  dsimp only
  intro d
  rw [setHold_channel]
  split
  · exact AllChannels.modifyChannel (k.drawing _) (fun c => h c) d
  · exact h d

theorem AllChannels.damage (k : ChannelClosed s.noticesLive P) (h : AllChannels P s) (i : Slot) :
    AllChannels P (s.damage i) := by
  intro d
  rw [damage_channel]
  unfold State.damageChannel
  have h1 : P d (if s.drawsAgainst i d then { s.channel d with drawing := none } else s.channel d) := by
    split_ifs
    · exact k.drawing _ _ (h d)
    · exact h d
  dsimp only
  by_cases hb : (if s.drawsAgainst i d then { s.channel d with drawing := none } else s.channel d).boundTo i
  · rw [if_pos hb]
    exact k.park _ _ (boundTo_bound hb) h1
  · rw [if_neg hb]
    exact h1

theorem AllChannels.readRecord (k : ChannelClosed s.noticesLive P) (h : AllChannels P s) (i : Slot) :
    AllChannels P (s.readRecord i).1 := by
  unfold State.readRecord
  split_ifs
  · exact h
  · exact h
  · exact h
  · exact h.damage k i

theorem AllChannels.lowerDependents (k : ChannelClosed s.noticesLive P) (h : AllChannels P s) (p : Slot) :
    AllChannels P (s.lowerDependents p) := by
  have hr := h.readRecord k p
  unfold State.lowerDependents
  split
  · next e => rw [e] at hr; exact fun c => hr c
  · next e => rw [e] at hr; exact fun c => hr c
  · next e => rw [e] at hr; exact hr

theorem AllChannels.dropRefill (k : ChannelClosed s.noticesLive P) (h : AllChannels P s) (i : Slot) :
    AllChannels P (s.dropRefill i) := by
  unfold State.dropRefill
  split
  · exact AllChannels.lowerDependents (s := s.modifyAccount i _) k (fun c => h c) _
  · exact h

theorem AllChannels.readPool (k : ChannelClosed s.noticesLive P) (h : AllChannels P s) (p : Slot) :
    AllChannels P (s.readPool p).1 := by
  have hr := h.readRecord k p
  unfold State.readPool
  split
  · next e => rw [e] at hr; exact hr
  · next e => rw [e] at hr; exact hr
  · next e => rw [e] at hr; exact hr

theorem AllChannels.refillStage (k : ChannelClosed s.noticesLive P) (h : AllChannels P s) (i : Slot) :
    AllChannels P (s.refillStage i) := by
  unfold State.refillStage
  split_ifs
  · split
    · next r _ =>
      have hr := h.readRecord k r.pool
      unfold State.refillAttempt
      split
      · next e =>
        rw [e] at hr
        dsimp only
        split_ifs <;> exact fun c => hr c
      · next e => rw [e] at hr; exact fun c => hr c
      · next e => rw [e] at hr; exact fun c => hr c
    · exact h
  · exact h

theorem AllChannels.breakHolds (n : Nat) (k : ChannelClosed s.noticesLive P) (h : AllChannels P s) (i : Slot) :
    AllChannels P (State.breakHolds n s i) := by
  induction n generalizing s with
  | zero => exact h
  | succ n ih =>
    unfold State.breakHolds
    split_ifs
    · split
      · exact ih ((noticesLive_eq (freeHold_outside s i _)).symm ▸ k) (h.freeHold k i _)
      · exact h
    · exact h

theorem AllChannels.breakStage (k : ChannelClosed s.noticesLive P) (h : AllChannels P s) (i : Slot) :
    AllChannels P (s.breakStage i) := by
  unfold State.breakStage
  split_ifs
  · exact fun c => h.breakHolds _ k i c
  · exact h

theorem AllChannels.postEmpty (k : ChannelClosed s.noticesLive P) (h : AllChannels P s) (i : Slot) (was : Bool) :
    AllChannels P (s.postEmpty i was) := by
  unfold State.postEmpty
  dsimp only
  split_ifs
  · exact h
  · exact h.mapBound k.entered
  · exact h.mapBound k.left

/-- The settle sequence keeps every property of the channels that is closed under its events. -/
theorem AllChannels.settle (k : ChannelClosed s.noticesLive P) (h : AllChannels P s) (i : Slot) :
    AllChannels P (s.settle i) := by
  have k1 : ChannelClosed (s.refillStage i).noticesLive P := (noticesLive_eq (refillStage_outside s i)).symm ▸ k
  have h2 := (h.refillStage k i).breakStage k1 i
  have k2 : ChannelClosed ((s.refillStage i).breakStage i).noticesLive P :=
    (noticesLive_eq (breakStage_outside (s.refillStage i) i)).symm ▸ k1
  exact AllChannels.postEmpty (s := ((s.refillStage i).breakStage i).modifyAccount i Account.evaluate) k2 (fun c => h2 c) i _

theorem AllChannels.drawPart (k : ChannelClosed s.noticesLive P) (h : AllChannels P s) (i : Slot) (x : HoldIdx) (n : Nat) :
    AllChannels P (s.drawPart i x n) := by
  unfold State.drawPart
  dsimp only
  split_ifs
  · exact fun c => AllChannels.freeHold (s := (s.modifyAccount i _).modifyHold x _) k (fun c => h c) i x c
  · exact fun c => h c

theorem AllChannels.applyCharge (k : ChannelClosed s.noticesLive P) (h : AllChannels P s) (c : Chan) (i : Slot) (flow : Flow)
    (n : Nat) : AllChannels P (s.applyCharge c i flow n).1 := by
  cases flow with
  | imp =>
    show AllChannels P (s.importCharge c i n).1
    unfold State.importCharge
    split
    · dsimp only
      split_ifs
      · exact h.drawPart k i _ _
      · exact fun d => h.drawPart k i _ _ d
    · exact fun d => h d
  | exp => exact fun d => h d

/-- A charge keeps every property of the channels that is closed under the events of its settle sequence. -/
theorem AllChannels.chargeQuantity (k : ChannelClosed s.noticesLive P) (h : AllChannels P s) (c : Chan) (flow : Flow)
    (q : Nat) : AllChannels P (s.chargeQuantity c flow q).1 := by
  unfold State.chargeQuantity
  dsimp only
  split_ifs
  · exact h
  · exact (h.applyCharge k c _ flow _).settle ((noticesLive_eq (applyCharge_outside s c _ flow _)).symm ▸ k) _

/-- A charge leaves the deferred quantities of every channel as they stand. -/
theorem chargeQuantity_deferred (s : State) (c d : Chan) (flow other : Flow) (q : Nat) :
    ((s.chargeQuantity c flow q).1.channel d).deferred other = (s.channel d).deferred other :=
  AllChannels.chargeQuantity (P := fun d ch => ch.deferred other = (s.channel d).deferred other)
    (deferred_closed _ _ _) (fun _ => rfl) c flow q d

/-- Damage leaves the deferred quantities of every channel as they stand. -/
theorem damage_deferred (s : State) (i : Slot) (d : Chan) (flow : Flow) :
    ((s.damage i).channel d).deferred flow = (s.channel d).deferred flow :=
  AllChannels.damage (P := fun d ch => ch.deferred flow = (s.channel d).deferred flow)
    (deferred_closed _ _ _) (fun _ => rfl) i d

theorem AllChannels.chargeDeferred (k : ChannelClosed s.noticesLive P) (z : ∀ c ch flow, P c ch → P c (ch.setDeferred flow 0))
    (h : AllChannels P s) (c : Chan) (flow : Flow) : AllChannels P (s.chargeDeferred c flow).1 :=
  AllChannels.chargeQuantity (s := s.modifyChannel c _) k (h.modifyChannel (fun ch => z c ch flow)) c flow _

theorem AllChannels.chargeBoth (k : ChannelClosed s.noticesLive P) (z : ∀ c ch flow, P c ch → P c (ch.setDeferred flow 0))
    (h : AllChannels P s) (c : Chan) : AllChannels P (s.chargeBoth c).1 :=
  (h.chargeDeferred k z c .imp).chargeDeferred ((noticesLive_eq (chargeDeferred_outside s c .imp)).symm ▸ k) z c .exp

end

end Sys2Proof.Laws
end

