-- ==== Sys2Proof/Laws/Holds.lean ====
section
/-! SUPPORT. What the shared operations can do to a hold entry: they free it, lower its amount by a drawing that leaves
something, or end its drawing; any property closed under these is kept. -/

namespace Sys2Proof.Laws

open Sys2Proof.Machine

/-- A property of the hold entries that freeing and drawing keep. -/
structure HoldClosed (P : HoldIdx → Hold → Prop) : Prop where
  freed : ∀ h e, P h e → P h e.freed
  drawn : ∀ h e n, n < e.amount → P h e → P h { e with amount := e.amount - n }
  undrawn : ∀ h e, P h e → P h { e with drawnBy := none }

/-- A property of every hold entry of a state. -/
def AllHolds (P : HoldIdx → Hold → Prop) (s : State) : Prop := ∀ h, P h (s.hold h)

section
variable {P : HoldIdx → Hold → Prop} {s : State}

theorem AllHolds.modifyHold {h : HoldIdx} {f : Hold → Hold} (hf : P h (s.hold h) → P h (f (s.hold h)))
    (a : AllHolds P s) : AllHolds P (s.modifyHold h f) := by
  intro d
  rw [State.modifyHold, setHold_hold]
  split_ifs with e
  · subst e; exact hf (a _)
  · exact a d

theorem endDrawing_hold (s : State) (c : Option Chan) (h : HoldIdx) : (s.endDrawing c).hold h = s.hold h := by
  cases c <;> rfl

theorem freeHold_hold (s : State) (i : Slot) (h k : HoldIdx) :
    (s.freeHold i h).hold k = if h = k then (s.hold h).freed else s.hold k := by
  unfold State.freeHold
  dsimp only
  rw [setHold_hold, endDrawing_hold]
  rfl

theorem AllHolds.freeHold (k : HoldClosed P) (a : AllHolds P s) (i : Slot) (h : HoldIdx) : AllHolds P (s.freeHold i h) := by
  intro d
  rw [freeHold_hold]
  split_ifs with e
  · subst e; exact k.freed _ _ (a _)
  · exact a d

theorem AllHolds.stopDrawing (k : HoldClosed P) (a : AllHolds P s) (c : Chan) : AllHolds P (s.stopDrawing c) := by
  unfold State.stopDrawing
  cases s.drawnHold c with
  | none => exact fun h => a h
  | some x =>
    exact fun h => a.modifyHold (h := x) (f := fun e => { e with drawnBy := none }) (k.undrawn x _) h

theorem AllHolds.damage (k : HoldClosed P) (a : AllHolds P s) (i : Slot) : AllHolds P (s.damage i) := by
  intro h
  rw [damage_hold]
  unfold Hold.damage
  split_ifs
  · exact k.freed _ _ (a h)
  · exact a h

theorem AllHolds.readRecord (k : HoldClosed P) (a : AllHolds P s) (i : Slot) : AllHolds P (s.readRecord i).1 := by
  unfold State.readRecord
  split_ifs
  · exact a
  · exact a
  · exact a
  · exact a.damage k i

theorem AllHolds.lowerDependents (k : HoldClosed P) (a : AllHolds P s) (p : Slot) : AllHolds P (s.lowerDependents p) := by
  have hr := a.readRecord k p
  unfold State.lowerDependents
  split
  · next e => rw [e] at hr; exact fun c => hr c
  · next e => rw [e] at hr; exact fun c => hr c
  · next e => rw [e] at hr; exact hr

theorem AllHolds.dropRefill (k : HoldClosed P) (a : AllHolds P s) (i : Slot) : AllHolds P (s.dropRefill i) := by
  unfold State.dropRefill
  split
  · exact AllHolds.lowerDependents (s := s.modifyAccount i _) k (fun c => a c) _
  · exact a

theorem AllHolds.readPool (k : HoldClosed P) (a : AllHolds P s) (p : Slot) : AllHolds P (s.readPool p).1 := by
  have hr := a.readRecord k p
  unfold State.readPool
  split
  · next e => rw [e] at hr; exact hr
  · next e => rw [e] at hr; exact hr
  · next e => rw [e] at hr; exact hr

theorem AllHolds.refillStage (k : HoldClosed P) (a : AllHolds P s) (i : Slot) : AllHolds P (s.refillStage i) := by
  unfold State.refillStage
  split_ifs
  · split
    · next r _ =>
      have hr := a.readRecord k r.pool
      unfold State.refillAttempt
      split
      · next e =>
        rw [e] at hr
        dsimp only
        split_ifs <;> exact fun c => hr c
      · next e => rw [e] at hr; exact fun c => hr c
      · next e => rw [e] at hr; exact fun c => hr c
    · exact a
  · exact a

theorem AllHolds.breakHolds (n : Nat) (k : HoldClosed P) (a : AllHolds P s) (i : Slot) :
    AllHolds P (State.breakHolds n s i) := by
  induction n generalizing s with
  | zero => exact a
  | succ n ih =>
    unfold State.breakHolds
    split_ifs
    · split
      · exact ih (a.freeHold k i _)
      · exact a
    · exact a

/-- The settle sequence keeps every property of the hold entries that is closed under freeing. -/
theorem AllHolds.settle (k : HoldClosed P) (a : AllHolds P s) (i : Slot) : AllHolds P (s.settle i) := by
  have h1 := a.refillStage k i
  have h2 : AllHolds P ((s.refillStage i).breakStage i) := by
    unfold State.breakStage
    split_ifs
    · exact fun h => h1.breakHolds _ k i h
    · exact h1
  unfold State.settle State.postEmpty
  dsimp only
  split_ifs <;> exact fun h => h2 h

theorem AllHolds.drawPart (k : HoldClosed P) (a : AllHolds P s) (i : Slot) (h : HoldIdx) (n : Nat)
    (hn : n ≤ (s.hold h).amount) : AllHolds P (s.drawPart i h n) := by
  have hm : ((s.modifyAccount i (fun a => { a.debit n with heldTotal := a.heldTotal - n })).modifyHold h
      (fun e => { e with amount := e.amount - n })).hold h = { s.hold h with amount := (s.hold h).amount - n } :=
    setHold_hold_same _ h _
  unfold State.drawPart
  dsimp only
  rw [hm]
  split_ifs with e
  · intro d
    show P d ((State.freeHold _ i h).hold d)
    rw [freeHold_hold]
    split_ifs with e2
    · subst e2
      rw [hm]
      exact k.freed h (s.hold h) (a h)
    · rw [State.modifyHold, setHold_hold, if_neg e2]
      exact a d
  · exact AllHolds.modifyHold (s := s.modifyAccount i _) (fun _ => k.drawn _ _ n (by
      have : (s.hold h).amount - n ≠ 0 := e
      show n < (s.hold h).amount
      omega) (a h)) (fun d => a d)

theorem AllHolds.applyCharge (k : HoldClosed P) (a : AllHolds P s) (c : Chan) (i : Slot) (flow : Flow) (n : Nat) :
    AllHolds P (s.applyCharge c i flow n).1 := by
  cases flow with
  | imp =>
    show AllHolds P (s.importCharge c i n).1
    unfold State.importCharge
    split
    · dsimp only
      split_ifs
      · exact a.drawPart k i _ _ (Nat.min_le_right _ _)
      · exact fun d => a.drawPart k i _ _ (Nat.min_le_right _ _) d
    · exact fun d => a d
  | exp => exact fun d => a d

/-- A charge keeps every property of the hold entries that is closed under freeing and drawing. -/
theorem AllHolds.chargeQuantity (k : HoldClosed P) (a : AllHolds P s) (c : Chan) (flow : Flow) (q : Nat) :
    AllHolds P (s.chargeQuantity c flow q).1 := by
  unfold State.chargeQuantity
  dsimp only
  split_ifs
  · exact a
  · exact (a.applyCharge k c _ flow _).settle k _

theorem AllHolds.chargeDeferred (k : HoldClosed P) (a : AllHolds P s) (c : Chan) (flow : Flow) :
    AllHolds P (s.chargeDeferred c flow).1 :=
  AllHolds.chargeQuantity (s := s.modifyChannel c _) k (fun h => a h) c flow _

theorem AllHolds.chargeBoth (k : HoldClosed P) (a : AllHolds P s) (c : Chan) : AllHolds P (s.chargeBoth c).1 :=
  (a.chargeDeferred k c .imp).chargeDeferred k c .exp

end

end Sys2Proof.Laws
end

