-- ==== Sys2Proof/Laws/PerInstr.lean ====
section
/-! SUPPORT. What holds of each command as syntax, one lemma for each constructor: the family Frames says that the
argument bytes of a host command are as many as the table of R169 gives its number. -/

namespace Sys2Proof.Laws.Frames

/-- The argument bytes of a host command have the length of R169. -/
def Statement (c : Instr) : Prop :=
  ∀ (tag number : Byte) (args : List Byte), c.hostArgs = some (tag, number, args) → argLength number = some args.length

/-- A command of a given number and argument bytes has the length, when the bytes have. -/
theorem statement_of {c : Instr} {t n : Byte} {l : List Byte} (h : c.hostArgs = some (t, n, l))
    (hl : argLength n = some l.length) : Statement c := by
  intro _ _ _ e
  rw [h] at e
  cases e
  exact hl

/-- A row that is no host command has no frame. -/
theorem statement_none {c : Instr} (h : c.hostArgs = none) : Statement c := by
  intro _ _ _ e
  rw [h] at e
  cases e

theorem commandTransaction (bytes : List Byte) : Statement (.commandTransaction bytes) :=
  statement_none rfl
theorem fetchTransaction (clocked : Nat) : Statement (.fetchTransaction clocked) :=
  statement_none rfl
theorem ignoredTransaction (first : Option Byte) : Statement (.ignoredTransaction first) :=
  statement_none rfl
theorem deviceStatus (tag : Byte) : Statement (.deviceStatus tag) :=
  statement_of rfl rfl
theorem restart (tag : Byte) : Statement (.restart tag) :=
  statement_of rfl rfl
theorem eraseTables (tag : Byte) : Statement (.eraseTables tag) :=
  statement_of rfl rfl
theorem openAccount (tag : Byte) (accountTag : BitVec 32) (kind cls : Byte) (floor lowMark : BitVec 32) (ceiling : BitVec 40) :
    Statement (.openAccount tag accountTag kind cls floor lowMark ceiling) :=
  statement_of rfl rfl
theorem setLimits (tag : Byte) (slot : Slot) (floor lowMark : BitVec 32) (ceiling : BitVec 40) :
    Statement (.setLimits tag slot floor lowMark ceiling) :=
  statement_of rfl rfl
theorem setClass (tag : Byte) (slot : Slot) (cls : Byte) : Statement (.setClass tag slot cls) :=
  statement_of rfl rfl
theorem adjust (tag : Byte) (slot : Slot) (dir : Byte) (amount : BitVec 32) (force : Byte) :
    Statement (.adjust tag slot dir amount force) :=
  statement_of rfl rfl
theorem freeze (tag : Byte) (slot : Slot) : Statement (.freeze tag slot) :=
  statement_of rfl rfl
theorem thaw (tag : Byte) (slot : Slot) : Statement (.thaw tag slot) :=
  statement_of rfl rfl
theorem close (tag : Byte) (slot : Slot) : Statement (.close tag slot) :=
  statement_of rfl rfl
theorem release (tag : Byte) (slot : Slot) : Statement (.release tag slot) :=
  statement_of rfl rfl
theorem readAccount (tag : Byte) (slot : Slot) : Statement (.readAccount tag slot) :=
  statement_of rfl rfl
theorem readFigures (tag : Byte) (slot : Slot) : Statement (.readFigures tag slot) :=
  statement_of rfl rfl
theorem findTag (tag : Byte) (accountTag : BitVec 32) : Statement (.findTag tag accountTag) :=
  statement_of rfl rfl
theorem clearSticky (tag : Byte) (slot : Slot) : Statement (.clearSticky tag slot) :=
  statement_of rfl rfl
theorem writeTariff (tag : Byte) (index : Byte) (rate : BitVec 16) (shift mode : Byte) :
    Statement (.writeTariff tag index rate shift mode) :=
  statement_of rfl rfl
theorem readTariff (tag : Byte) (index : Byte) : Statement (.readTariff tag index) :=
  statement_of rfl rfl
theorem bindChannel (tag : Byte) (channel : Byte) (slot : Slot) (importTariff exportTariff : Byte) :
    Statement (.bindChannel tag channel slot importTariff exportTariff) :=
  statement_of rfl rfl
theorem unbindChannel (tag : Byte) (channel : Byte) : Statement (.unbindChannel tag channel) :=
  statement_of rfl rfl
theorem resyncChannel (tag : Byte) (channel : Byte) : Statement (.resyncChannel tag channel) :=
  statement_of rfl rfl
theorem readChannel (tag : Byte) (channel clear : Byte) : Statement (.readChannel tag channel clear) :=
  statement_of rfl rfl
theorem setChannelOptions (tag : Byte) (channel grace silenceTimeout autoRestore silentCut : Byte) :
    Statement (.setChannelOptions tag channel grace silenceTimeout autoRestore silentCut) :=
  statement_of rfl rfl
theorem placeHold (tag : Byte) (slot : Slot) (amount : BitVec 32) (lifetime : BitVec 16) :
    Statement (.placeHold tag slot amount lifetime) :=
  statement_of rfl rfl
theorem captureHold (tag : Byte) (handle : BitVec 16) (amount : BitVec 32) :
    Statement (.captureHold tag handle amount) :=
  statement_of rfl rfl
theorem releaseHold (tag : Byte) (handle : BitVec 16) : Statement (.releaseHold tag handle) :=
  statement_of rfl rfl
theorem readHold (tag : Byte) (handle : BitVec 16) : Statement (.readHold tag handle) :=
  statement_of rfl rfl
theorem listHolds (tag : Byte) (slot : Slot) : Statement (.listHolds tag slot) :=
  statement_of rfl rfl
theorem drawHold (tag : Byte) (channel : Byte) (handle : BitVec 16) : Statement (.drawHold tag channel handle) :=
  statement_of rfl rfl
theorem endDraw (tag : Byte) (channel : Byte) : Statement (.endDraw tag channel) :=
  statement_of rfl rfl
theorem restorePermit (tag : Byte) (channel : Byte) : Statement (.restorePermit tag channel) :=
  statement_of rfl rfl
theorem cutPermit (tag : Byte) (channel : Byte) : Statement (.cutPermit tag channel) :=
  statement_of rfl rfl
theorem setRefill (tag : Byte) (slot pool : Slot) (amount : BitVec 32) (count : Byte) :
    Statement (.setRefill tag slot pool amount count) :=
  statement_of rfl rfl
theorem clearRefill (tag : Byte) (slot : Slot) : Statement (.clearRefill tag slot) :=
  statement_of rfl rfl
theorem startSweep (tag : Byte) (number dir : Byte) (amount : BitVec 32) (selector start : Byte) :
    Statement (.startSweep tag number dir amount selector start) :=
  statement_of rfl rfl
theorem stopSweep (tag : Byte) : Statement (.stopSweep tag) :=
  statement_of rfl rfl
theorem readSweep (tag : Byte) : Statement (.readSweep tag) :=
  statement_of rfl rfl
theorem setNotice (tag : Byte) (source : BitVec 16) (level group : Byte) (mask : BitVec 16) (enable : Byte) :
    Statement (.setNotice tag source level group mask enable) :=
  statement_of rfl rfl
theorem noticesOn (tag : Byte) : Statement (.noticesOn tag) :=
  statement_of rfl rfl
theorem noticesOff (tag : Byte) : Statement (.noticesOff tag) :=
  statement_of rfl rfl
theorem takeNotice (tag : Byte) : Statement (.takeNotice tag) :=
  statement_of rfl rfl
theorem endNotice (tag : Byte) : Statement (.endNotice tag) :=
  statement_of rfl rfl
theorem readPending (tag : Byte) (source : BitVec 16) : Statement (.readPending tag source) :=
  statement_of rfl rfl
theorem clearCauses (tag : Byte) (source causes : BitVec 16) : Statement (.clearCauses tag source causes) :=
  statement_of rfl rfl
theorem readStack (tag : Byte) : Statement (.readStack tag) :=
  statement_of rfl rfl
theorem rebuildAccount (tag : Byte) (slot : Slot) (balance : BitVec 40) (floor lowMark : BitVec 32) (ceiling : BitVec 40) (charged credited : BitVec 48) (lastSweep : Byte) :
    Statement (.rebuildAccount tag slot balance floor lowMark ceiling charged credited lastSweep) :=
  statement_of rfl rfl
theorem discardAccount (tag : Byte) (slot : Slot) : Statement (.discardAccount tag slot) :=
  statement_of rfl rfl
theorem nextDamaged (tag : Byte) (slot : Slot) : Statement (.nextDamaged tag slot) :=
  statement_of rfl rfl
theorem reportFrame (line : Chan) (lineSeq q0 q1 q2 flags check : Byte) :
    Statement (.reportFrame line lineSeq q0 q1 q2 flags check) :=
  statement_none rfl
theorem frameGapTimeout (line : Chan) : Statement (.frameGapTimeout line) :=
  statement_none rfl
theorem framingMarkAbandon (line : Chan) : Statement (.framingMarkAbandon line) :=
  statement_none rfl
theorem usageCharge (channel : Chan) : Statement (.usageCharge channel) :=
  statement_none rfl
theorem secondEvent : Statement (.secondEvent) :=
  statement_none rfl
theorem holdLifetimeExpiry (entry : HoldIdx) : Statement (.holdLifetimeExpiry entry) :=
  statement_none rfl
theorem holdExpiry (handle : Machine.Handle) : Statement (.holdExpiry handle) :=
  statement_none rfl
theorem graceExpiry (channel : Chan) : Statement (.graceExpiry channel) :=
  statement_none rfl
theorem silenceTimeout (channel : Chan) : Statement (.silenceTimeout channel) :=
  statement_none rfl
theorem sweepStep : Statement (.sweepStep) :=
  statement_none rfl
theorem referenceLost : Statement (.referenceLost) :=
  statement_none rfl
theorem referenceReturned : Statement (.referenceReturned) :=
  statement_none rfl
theorem enterRetain : Statement (.enterRetain) :=
  statement_none rfl
theorem supplyOff : Statement (.supplyOff) :=
  statement_none rfl
theorem vbkLost : Statement (.vbkLost) :=
  statement_none rfl
theorem coldStart : Statement (.coldStart) :=
  statement_none rfl
theorem supplyReturn : Statement (.supplyReturn) :=
  statement_none rfl
theorem resetPinFall : Statement (.resetPinFall) :=
  statement_none rfl
theorem resetPinRise : Statement (.resetPinRise) :=
  statement_none rfl
theorem startCheckRead : Statement (.startCheckRead) :=
  statement_none rfl
theorem startCheckCompletion : Statement (.startCheckCompletion) :=
  statement_none rfl
theorem frameSync (line : Chan) : Statement (.frameSync line) :=
  statement_none rfl

end Sys2Proof.Laws.Frames
end

