-- ==== Sys2Proof/Laws/Port.lean ====
section
/-! SUPPORT. The ways a host command can be served by the port. -/

namespace Sys2Proof.Laws

open Sys2Proof.Machine

/-- Everything the serving of a host command can leave: the state as it was, a response that needed no block, or what its
block leaves of the state with the port BUSY. -/
theorem serveWith_cases {P : State → Prop} {frame : List Byte} {served : Bool} {go : State → State} {s : State}
    (same : P s) (answered : ∀ r, P (s.answered r))
    (starting : ∀ p, P (({ s with port := p } : State).readied frame .starting []))
    (taken : s.powered = true → ¬(s.phase = .starting ∧ served = false) → ∀ p, P (go { s with port := p })) :
    P (serveWith frame served go s) := by
  have carried : s.powered = true → ∀ p, P (carryOut frame served go { s with port := p }) := by
    intro hp p
    unfold carryOut
    split_ifs with h
    · exact starting p
    · exact taken hp h p
  unfold serveWith
  by_cases hp : s.powered = true
  · rw [if_pos hp]
    split
    · split_ifs
      · exact carried hp s.port
      · exact same
    · split
      · exact answered _
      · exact carried hp (.busy frame)
  · rw [if_neg hp]
    exact same

/-- A command at its block is carried out. -/
theorem serveWith_atBlock {c : Instr} {served : Bool} {go : State → State} {s : State} (h : s.atBlock c) :
    serveWith c.frame served go s = go s := by
  simp [serveWith, carryOut, State.powered, h.1, h.2, PortState.frame?]

/-- A command at its block is carried out and its answer readied. -/
theorem serve_atBlock {c : Instr} {body : State → Reply} {s : State} (h : s.atBlock c) :
    serve c.frame body s = .next ((body s).state.readied c.frame (body s).status (body s).result) := by
  unfold serve
  rw [serveWith_atBlock h]

/-- A sound record passes the checks before a command's own. -/
theorem withRecord_sound {i : Slot} {s : State} {k : Account → Reply} (h : s.sound i) :
    withRecord i s k = k (s.account i) := by
  unfold withRecord
  rw [readRecord_sound h.1 h.2.1 h.2.2]

/-- A sound record of a live account passes the checks of a command that needs one. -/
theorem withLive_sound {i : Slot} {s : State} {k : Account → Reply} (h : s.sound i) (hl : (s.account i).state.live = true) :
    withLive i s k = k (s.account i) := by
  unfold withLive
  rw [withRecord_sound h, if_pos hl]

/-- A handle that is honoured, on a sound account, reaches the command's own checks. -/
theorem withHold_sound {w : BitVec 16} {s : State} {k : HoldIdx → Account → Reply} (hh : s.honoured (Handle.ofWord w) = true)
    (h : s.sound (s.hold (Handle.ofWord w).idx).slot) :
    withHold w s k = k (Handle.ofWord w).idx (s.account (s.hold (Handle.ofWord w).idx).slot) := by
  unfold withHold
  rw [if_pos hh, withRecord_sound h]

/-- The channel a channel number names. -/
theorem withChannel_of {b : Byte} {c : Chan} {s : State} {k : Chan → Reply} (h : channelArg b = some c) :
    withChannel b s k = k c := by
  unfold withChannel
  rw [h]

/-- A bound channel passes the checks of a command that needs one. -/
theorem withBound_of {b : Byte} {c : Chan} {s : State} {k : Chan → Reply} (h : channelArg b = some c)
    (hb : (s.channel c).bound = true) : withBound b s k = k c := by
  unfold withBound
  rw [withChannel_of h, if_pos hb]

end Sys2Proof.Laws
end

