-- ==== Sys2Proof/WellFormed.lean ====
section
/-! DEFINITION. Which terms of `Instr` are commands of the block. -/

namespace Sys2Proof

/-- A term is well formed when it can occur. The operand types leave one check: a transaction whose first byte is 3Ch
or A3h is a COMMAND or a FETCH transaction, not an ignored one (R163). -/
def Instr.wellFormed : Instr → Bool
  | .ignoredTransaction (some b) => decide (b ≠ 0x3C ∧ b ≠ 0xA3)
  | _ => true

end Sys2Proof
end

