-- ==== Sys2Proof/Tests/Slice0.lean ====
section
/-! SUPPORT. The author's own checks: ill-formed terms, words and charges the spec works out, one step of its worked
examples, and for every statement with hypotheses a state and operands that meet them. -/

namespace Sys2Proof.Tests

-- One theorem after another: the threads of parallel elaboration would fill the memory limit.
set_option Elab.async false

open Sys2Proof.Machine

/-! Checks of single operations. -/

/-- A transaction with first byte 3Ch is no ignored transaction (R163). -/
theorem test_wellFormed_refuses_command : (Instr.ignoredTransaction (some 0x3C)).wellFormed = false := rfl

/-- Nor is one with first byte A3h. -/
theorem test_wellFormed_refuses_fetch : (Instr.ignoredTransaction (some 0xA3)).wellFormed = false := rfl

/-- Any other first byte, or none, is. -/
theorem test_wellFormed_accepts :
    (Instr.ignoredTransaction (some 0x3D)).wellFormed = true ∧ (Instr.ignoredTransaction none).wellFormed = true := ⟨rfl, rfl⟩

/-- No word of this table spells a command: its rows give no bits. -/
theorem test_no_word_spells_a_command : decodeTableWord 8 0x3C = none := rfl

/-- The check over the ASCII digits 1 to 9 with the polynomial of R46 and start value 00h. -/
theorem test_crc_digits : crc8 0x00 [0x31, 0x32, 0x33, 0x34, 0x35, 0x36, 0x37, 0x38, 0x39] = 0xF4 := by decide +kernel

/-- Check followed by its own byte leaves 00h in the register. -/
theorem test_crc_closes : crc8 0x00 (frameOf 0x07 0x15 [0x02]) = 0x00 := by decide +kernel

/-- Section 2.7: 2,000 at rate 1,350 and shift 10, in both modes. -/
theorem test_charge_rounding :
    (⟨1350, 10, .nearest, 0⟩ : Tariff).charge 2000 = 2637 ∧ (⟨1350, 10, .truncate, 0⟩ : Tariff).charge 2000 = 2636 := by decide

/-- Section 2.7: small reports at rate 3 and shift 2. -/
theorem test_charge_small :
    (⟨3, 2, .nearest, 0⟩ : Tariff).charge 1 = 1 ∧ (⟨3, 2, .truncate, 0⟩ : Tariff).charge 1 = 0 ∧
      (⟨3, 2, .nearest, 0⟩ : Tariff).charge 3 = 2 ∧ (⟨3, 2, .truncate, 0⟩ : Tariff).charge 3 = 2 := by decide

/-- R35: the greatest charge. -/
theorem test_charge_greatest : (⟨65535, 0, .nearest, 0⟩ : Tariff).charge 4294967295 = 281470681677825 := by decide

/-- Section 4.11: handle 452 is entry 4 at generation 7. -/
theorem test_handle_452 : Handle.ofWord 452 = ⟨7, 4⟩ ∧ (⟨7, 4⟩ : Handle).value = 452 := by decide

/-- The frame of REBUILD ACCOUNT, the longest, gives back the command. -/
theorem test_decode_rebuild :
    decodeCommand 0x01 0x90 [0xFF, 0xFF, 0xFF, 0xFF, 0xFF, 0xFF, 0, 0, 0, 0, 1, 0, 0, 0, 2, 0, 0, 0, 0, 3, 0, 0, 0, 0, 0, 4, 0, 0, 0, 0, 0, 9]
      = some (.rebuildAccount 0x01 255 (-1) 0 1 2 3 4 9) := by decide +kernel

/-- A frame with too few arguments gives back nothing. -/
theorem test_decode_short : decodeCommand 0x01 0x14 [] = none := by decide +kernel

/-- The unsaturated and the saturated halves of the eight-bit counters. -/
theorem test_counters : satCount 254 1 = 255 ∧ satCount 255 1 = 255 ∧ satCount 250 14 = 255 := by decide

/-! A small state to step from. -/

/-- An account is put in its slot, in the records and in the map. -/
def put (i : Slot) (a : Account) (s : State) : State := (s.setPair i (some ⟨a.tag, a.state⟩)).setAccount i a

/-- The check word of a record is made to disagree. -/
def spoil (i : Slot) (s : State) : State :=
  { s with accounts := s.accounts.set i.val { s.account i with syndrome := 1 } i.isLt }

/-- The port has taken the frame of a command. -/
def taken (c : Instr) (s : State) : State := { s with port := .busy c.frame }

/-- What a command leaves. -/
def after (c : Instr) (s : State) : State :=
  match exec c s with
  | .next t => t
  | .fault _ => s
  | .refused _ => s

/-- A consumer with limits -10, 100 and 2,000. -/
def consumer (tag : BitVec 32) (balance : Int) : Account :=
  { Account.zero with state := .opened, tag := tag, balance := balance, floor := -10, lowMark := 100, ceiling := 2000 }

/-- A tariff of one unit per quantity. -/
def unitTariff : Tariff := ⟨1, 0, .truncate, 4⟩

/-- Slots: 0 an OPEN consumer with two holds, a specification and channel 0; 1 the pool it names; 2 a FROZEN consumer
with channel 1; 3 a DAMAGED one with channel 2; 4 a RETIRED one; 5 one whose check word is wrong, with channel 3; 254 an
OPEN pool with no dependents; 255 an OPEN consumer with nothing. Channel 7 and hold entry 63 are free. -/
def sample : State :=
  let accounts := spoil 5 (put 255 (consumer 9 500) (put 254 { consumer 8 500 with kind := .pool }
    (put 5 { consumer 6 500 with heldTotal := 9, holdList := [2], bindingCount := 1 }
    (put 4 { consumer 5 500 with state := .retired } (put 3 { consumer 4 500 with state := .damaged, bindingCount := 1 }
    (put 2 { consumer 3 500 with state := .frozen, bindingCount := 1 } (put 1 { consumer 2 1000 with kind := .pool, dependents := 1 }
    (put 0 { consumer 1 500 with heldTotal := 100, holdList := [0, 1], bindingCount := 1, refill := some ⟨1, 50, 2⟩, cls := 3 }
    State.reset))))))))
  let tariffs := (accounts.setTariff 0 unitTariff).setTariff 15 { unitTariff with rate := 2 }
  let holds := ((tariffs.setHold 0 ⟨true, 0, 0, 40, 1, false, some 0⟩).setHold 1 ⟨true, 5, 0, 60, 0, true, none⟩).setHold 2
    ⟨true, 0, 5, 9, 0, true, none⟩
  let bound := { Channel.zero with exportTariff := 15, silenceTimeout := 5, silenceCounter := 5 }
  let channels := (((holds.setChannel 0 { bound with
        state := .live, slot := 0, permit := .on, drawing := some ⟨0, 0⟩, sync := some 15, requests := [⟨.imp, 10⟩] }).setChannel 1
      { bound with state := .parked, slot := 2, requests := [⟨.exp, 3⟩], deferredImport := 7 }).setChannel 2
      { bound with state := .parked, slot := 3, requests := [⟨.imp, 4⟩] }).setChannel 3
      { bound with state := .live, slot := 5, permit := .grace, graceRemaining := 1, silenceCounter := 1, requests := [⟨.imp, 1⟩] }
  { channels with expiryRequests := [⟨5, 1⟩, ⟨0, 2⟩, ⟨9, 3⟩] }

/-- Soundness of a record as a Boolean, to be evaluated. -/
def soundB (s : State) (i : Slot) : Bool :=
  decide (s.mapState i ≠ .free ∧ s.mapState i ≠ .damaged ∧ (s.account i).syndrome = 0)

theorem sound_of {s : State} {i : Slot} (h : soundB s i = true) : s.sound i :=
  of_decide_eq_true (p := s.mapState i ≠ .free ∧ s.mapState i ≠ .damaged ∧ (s.account i).syndrome = 0) h

theorem sound0 : sample.sound 0 := sound_of (by decide +kernel)
theorem sound1 : sample.sound 1 := sound_of (by decide +kernel)
theorem sound2 : sample.sound 2 := sound_of (by decide +kernel)
theorem sound4 : sample.sound 4 := sound_of (by decide +kernel)
theorem sound254 : sample.sound 254 := sound_of (by decide +kernel)
theorem sound255 : sample.sound 255 := sound_of (by decide +kernel)
theorem damaged3 : sample.mapState 3 = .damaged := by decide +kernel
theorem free6 : sample.mapState 6 = .free := by decide +kernel
theorem mismatched5 : sample.mismatched 5 := ⟨by decide +kernel, by decide +kernel, by decide +kernel⟩

/-! One step of what the spec works out. -/

/-- Section 1.9, the checked debit that ends at the floor. -/
theorem test_adjust_to_floor :
    let s := put 5 { consumer 1 800 with floor := -500, lowMark := 2000, ceiling := 100000, low := true } State.reset
    let t := after (.adjust 1 5 0 1300 0) s
    (t.account 5).balance = -500 ∧ (t.account 5).empty = true ∧ (t.account 5).notice.pending = Cause.empty ∧
      (t.account 5).charged = 1300 := by decide +kernel

/-- Section 4.11, the breaking of the two youngest of three holds. -/
theorem test_breaking :
    let s := put 41 { consumer 1 10000 with
      floor := -1000, lowMark := 500, ceiling := 200000, heldTotal := 9000, holdList := [9, 3, 5] } State.reset
    let s := ((s.setHold 9 ⟨true, 0, 41, 3000, 0, false, none⟩).setHold 3 ⟨true, 0, 41, 2000, 0, false, none⟩).setHold 5
      ⟨true, 0, 41, 4000, 0, false, none⟩
    let t := after (.adjust 1 41 0 6000 1) s
    (t.account 41).balance = 4000 ∧ (t.account 41).heldTotal = 3000 ∧ (t.account 41).holdList = [9] ∧
      (t.account 41).notice.pending = Cause.holdBroken ∧ (t.hold 5).generation = 1 := by decide +kernel

/-- Section 6.7, event 3: a transfer cut to the headroom, and the pool LOW. -/
theorem test_refill_to_ceiling :
    let s := put 3 { consumer 1 4000 with kind := .pool, floor := 0, lowMark := 2000, ceiling := 1000000, dependents := 1 }
      (put 15 { consumer 2 300 with floor := -500, lowMark := 600, ceiling := 4000, refill := some ⟨3, 5000, 255⟩ } State.reset)
    let t := s.settle 15
    (t.account 15).balance = 4000 ∧ (t.account 15).clamped = false ∧ (t.account 3).balance = 300 ∧
      (t.account 3).notice.pending = Cause.low ∧ (t.account 15).low = false := by decide +kernel

/-- Section 5.8, event 1: an import runs the account dry and the permit goes to GRACE. -/
theorem test_grace_begins :
    let s := put 30 { consumer 1 400 with floor := 0, lowMark := 500, ceiling := 50000, low := true } State.reset
    let s := (s.setTariff 0 unitTariff).setChannel 1
      { Channel.zero with state := .live, slot := 30, permit := .on, grace := 20, requests := [⟨.imp, 400⟩] }
    let t := after (.usageCharge 1) s
    (t.channel 1).permit = .grace ∧ (t.channel 1).graceRemaining = 20 ∧ (t.channel 1).emptyMark = true ∧
      (t.account 30).empty = true ∧ t.pmt 1 = true := by decide +kernel

/-- Section 9.6, event 4: a frame three numbers on is taken with two missed, and deferred during the start check. -/
theorem test_gap_while_starting :
    let s := { State.reset with phase := .starting, startCause := .supply }
    let s := s.setChannel 0 { Channel.zero with state := .parked, sync := some 6, deferredImport := 300 }
    let t := after (.reportFrame 0 0x09 0x90 0x01 0x00 0x00 (crc8 0xFF [0x09, 0x90, 0x01, 0x00, 0x00])) s
    (t.channel 0).deferredImport = 700 ∧ (t.channel 0).missed = 2 ∧ (t.channel 0).sync = some 9 ∧
      (t.channel 0).notice.pending = Cause.gap := by decide +kernel

/-- A command whose frame the replay memory holds is answered from it, and not carried out again (R167). -/
theorem test_replay :
    let c := Instr.noticesOn 7
    let t := after c State.reset
    let u := after c { t with globalEnable := false }
    t.globalEnable = true ∧ u.globalEnable = false ∧
      u.port = .ready { responseTo c.frame .ok [0x00] with replayed := true } := by decide +kernel

/-! For every statement with hypotheses: a state and operands that meet them, clause by clause. -/

/-- The sample with the port holding a command is at its block. -/
theorem atB (c : Instr) : (taken c sample).atBlock c := ⟨rfl, rfl⟩

theorem taken_pair (c : Instr) (s : State) (j : Slot) : (taken c s).pair j = s.pair j := rfl
theorem takenSound {c : Instr} {s : State} {i : Slot} (h : s.sound i) : (taken c s).sound i := h
theorem takenMismatched {c : Instr} {s : State} {i : Slot} (h : s.mismatched i) : (taken c s).mismatched i := h

/-- No pair of the map carries the tag, to be evaluated. -/
def tagFree (s : State) (tag : BitVec 32) : Bool :=
  s.tagMap.toList.all (fun o => match o with | some p => decide (p.tag ≠ tag) | none => true)

theorem tagFree_of {s : State} {tag : BitVec 32} (h : tagFree s tag = true) (j : Slot) (p : MapPair) (hp : s.pair j = some p) :
    p.tag ≠ tag := by
  have := List.all_eq_true.1 h (some p) (by rw [← hp]; simp [State.pair, Vector.get_eq_getElem])
  simpa using this

/-- The one pair of a map in which one account has been put. -/
theorem put_pair {i j : Slot} {a : Account} {p : MapPair} (h : (put i a State.reset).pair j = some p) :
    i = j ∧ p = ⟨a.tag, a.state⟩ := by
  unfold put at h
  rw [Laws.setAccount_pair, Laws.setPair_pair] at h
  split at h
  · rename_i e
    exact ⟨e, (Option.some.inj h).symm⟩
  · rw [show State.reset.pair j = none from Laws.get_replicate none j] at h
    cases h

/-- The sample with every slot taken in the map. -/
def full : State := { sample with tagMap := Vector.replicate 256 (some ⟨9, .opened⟩) }

theorem full_some (c : Instr) (j : Slot) : (taken c full).pair j = some ⟨9, .opened⟩ := Laws.get_replicate _ j

theorem full_tag {c : Instr} {j : Slot} {p : MapPair} (h : (taken c full).pair j = some p) : p.tag ≠ 77 := by
  rw [full_some] at h
  cases h
  decide

theorem pending_tagsWf {s : State} (q : List Instr) (h : s.tagsWf) : ({ s with pending := q } : State).tagsWf := h

theorem witness_StepTakesFrontCommand : ∃ (c : Instr) (rest : List Instr) (s : State), s.pending = c :: rest :=
  ⟨.secondEvent, [.sweepStep], { sample with pending := [.secondEvent, .sweepStep] }, rfl⟩

theorem witness_StackStaysRising : ∃ s t : State, s.stackWf ∧ step s = .next t :=
  ⟨{ sample with stack := [⟨15, .fault⟩, ⟨1, .device⟩], faults := ⟨1, 1⟩, pending := [.takeNotice 1] }, _,
    ⟨by decide +kernel, by decide +kernel, by decide +kernel⟩, rfl⟩

theorem sample_permitWf : sample.permitWf := ⟨by decide +kernel, by decide +kernel, by decide +kernel⟩

theorem witness_PermitsStandOnLiveChannelsOnly : ∃ s t : State, s.permitWf ∧ step s = .next t :=
  ⟨{ sample with pending := [.freeze 1 0] }, _, sample_permitWf, rfl⟩

theorem sample_usesWf : sample.usesWf := by
  unfold State.usesWf
  decide +kernel

theorem witness_UsesCountsStayExact : ∃ s t : State, s.usesWf ∧ step s = .next t :=
  ⟨{ sample with pending := [.unbindChannel 1 0] }, _, sample_usesWf, rfl⟩

theorem one_tagsWf : (put 255 (consumer 1 500) State.reset).tagsWf := by
  refine ⟨fun i p h => ?_, fun i j p q h k _ => ?_⟩
  · rw [(put_pair h).2]
    decide
  · rw [← (put_pair h).1, ← (put_pair k).1]

theorem witness_TagsStayDistinct : ∃ s t : State, s.tagsWf ∧ step s = .next t :=
  ⟨{ put 255 (consumer 1 500) State.reset with pending := [.freeze 1 255] }, _, pending_tagsWf _ one_tagsWf, rfl⟩

theorem sample_limitsWf : sample.limitsWf := by
  unfold State.limitsWf Account.limitsWf
  decide +kernel

theorem witness_BalancesStayWithinCeilings : ∃ s t : State, s.limitsWf ∧ step s = .next t :=
  ⟨{ sample with pending := [.adjust 1 255 1 1500 0] }, _, sample_limitsWf, rfl⟩

theorem witness_HoldsAndSweepKeepTheirValues : ∃ s t : State, (s.holdsWf ∧ s.sweep.wf) ∧ step s = .next t := by
  refine ⟨{ sample with sweep := ⟨.running, 1, .debit, 5, .all, 255, 1, .none, false⟩, pending := [.sweepStep] }, _, ⟨?_, ?_⟩, rfl⟩
  · unfold State.holdsWf Hold.wf
    decide +kernel
  · unfold Sweep.wf
    decide +kernel

theorem witness_PhasesKeepTheirConditions : ∃ s t : State, s.supplyWf ∧ step s = .next t := by
  refine ⟨{ State.reset with phase := .starting, startCause := .supply, checkPosition := 255, pending := [.startCheckRead] }, _, ?_, rfl⟩
  unfold State.supplyWf
  decide +kernel

/-- Bytes for each judgement of R165: a length of 33, a frame cut off, a wrong check, and a good frame. -/
theorem witness_CommandTransactionIsJudged :
    (∃ f, (taken (.noticesOn 1) sample).port = .busy f) ∧ sample.phase = .run ∧ (∀ f, sample.port ≠ .busy f) ∧
    (let bytes : List Byte := [1, 0x81, 33]; 3 ≤ bytes.length ∧ 32 < (bytes.getD 2 0).toNat) ∧
    (let bytes : List Byte := [1, 0x81, 32]; ¬(3 ≤ bytes.length ∧ 32 < (bytes.getD 2 0).toNat) ∧ bytes.length < 4 + 32) ∧
    (let bytes : List Byte := [1, 0x81, 0, 0]
     4 ≤ bytes.length ∧ crc8 0 (bytes.take 3) ≠ bytes.getD 3 0) ∧
    (let bytes : List Byte := (Instr.noticesOn 1).frame
     let s := after (.noticesOn 1) sample
     4 ≤ bytes.length ∧ crc8 0 (bytes.take 3) = bytes.getD 3 0 ∧
      ∃ e, s.replay = some e ∧ e.frame = bytes.take 4 ∧ s.phase = .run ∧ ∀ f, s.port ≠ .busy f) :=
  ⟨⟨_, rfl⟩, rfl, by rintro f ⟨⟩, by decide +kernel, by decide +kernel, by decide +kernel, by decide +kernel, by decide +kernel,
    _, rfl, by decide +kernel, rfl, by rintro f ⟨⟩⟩

theorem witness_GoodFrameIsTaken :
    (∀ f, sample.port ≠ .busy f) ∧ sample.phase = .run ∧ sample.replay = none ∧
    argLength 0x04 = none ∧ (argLength 0x14 = some 1 ∧ 1 ≠ ([] : List Byte).length) ∧
    (argLength 0x90 = some 32 ∧ 32 = (List.replicate 32 (0 : Byte)).length) ∧
    (∃ s : State, s.phase = .starting ∧ (∀ f, s.port ≠ .busy f) ∧ s.replay = none ∧ argLength 0x81 = some 0 ∧ (0x81 : Byte) ≠ 0x01) :=
  ⟨by rintro f ⟨⟩, rfl, rfl, by decide, by decide, by decide,
    { sample with phase := .starting }, rfl, by rintro f ⟨⟩, rfl, by decide, by decide⟩

theorem witness_FetchAndIgnoredTransactions :
    (∃ (s : State) (r : Response), s.phase = .run ∧ s.port = .ready r) ∧
    (∃ s : State, s.phase = .starting ∧ ∀ r, s.port ≠ .ready r) :=
  ⟨⟨{ sample with port := .ready ⟨.ok, false, 1, 0x81, [0]⟩ }, _, rfl, rfl⟩,
    { sample with phase := .starting }, rfl, by rintro r ⟨⟩⟩

theorem witness_HostCommandArrivesWhole :
    let c := Instr.noticesOn 1
    c.hostArgs.isSome = true ∧
    (sample.powered = true ∧ (∀ f, sample.port ≠ .busy f) ∧ sample.replayOf c.frame = none) ∧
    (let s := after c sample; s.powered = true ∧ s.port.frame? = none ∧ (s.replayOf c.frame).isSome = true) ∧
    (∃ f, (taken (.noticesOff 1) sample).port = .busy f ∧ f ≠ c.frame) ∧
    ({ sample with phase := .retain } : State).powered = false :=
  ⟨rfl, ⟨rfl, by rintro f ⟨⟩, rfl⟩, by decide +kernel, ⟨_, rfl, by decide +kernel⟩, rfl⟩

theorem witness_StartCheckAnswersStarting :
    let c := Instr.readAccount 5 10
    let s : State := taken c { sample with phase := .starting }
    c.hostArgs = some (5, 0x18, [10]) ∧ (0x18 : Byte) ≠ 0x01 ∧ s.phase = .starting ∧ s.port = .busy c.frame :=
  ⟨by decide, by decide, rfl, rfl⟩

theorem witness_DecodeOfEncode : ∃ (c : Instr) (tag number : Byte) (args : List Byte), c.hostArgs = some (tag, number, args) :=
  ⟨.noticesOn 1, 1, 0x81, [], rfl⟩

/-- Limits of 0, 0 and 1, and the lowest FREE slot 6. -/
theorem witness_OpenAccountCompletes :
    let c := Instr.openAccount 1 77 1 15 0 0 1
    let s := taken c sample
    s.atBlock c ∧ (77 : BitVec 32) ≠ 0 ∧ (15 : Byte).toNat ≤ 15 ∧ (0 : BitVec 32).toInt ≤ 0 ∧
      (0 : BitVec 32).toInt < (1 : BitVec 40).toInt ∧ 1 ≤ (1 : BitVec 40).toInt ∧ (∀ j p, s.pair j = some p → p.tag ≠ 77) ∧
      s.pair 6 = none ∧ ∀ j < (6 : Slot), s.pair j ≠ none :=
  ⟨atB _, by decide, by decide, by decide, by decide, by decide, tagFree_of (by decide +kernel), by decide +kernel, by decide +kernel⟩

theorem witness_OpenAndAdjustRefusals :
    (let c := Instr.openAccount 1 77 2 15 0 0 1; (taken c sample).atBlock c ∧ (2 : Byte) ≠ 0 ∧ (2 : Byte) ≠ 1) ∧
    (let c := Instr.openAccount 1 9 0 15 0 0 1
     (taken c sample).atBlock c ∧ ∃ j p, (taken c sample).pair j = some p ∧ p.tag = 9) ∧
    (let c := Instr.openAccount 1 77 0 15 0 0 1
     let s : State := taken c full
     s.atBlock c ∧ (∀ j p, s.pair j = some p → p.tag ≠ 77) ∧ ∀ j, s.pair j ≠ none) ∧
    (let c := Instr.adjust 1 255 0 511 0
     let s := taken c sample
     let a := s.account 255
     s.atBlock c ∧ s.sound 255 ∧ a.state = .opened ∧ a.balance - a.heldTotal - a.floor < (511 : BitVec 32).toNat) ∧
    (let c := Instr.adjust 1 255 1 1501 0
     let s := taken c sample
     let a := s.account 255
     s.atBlock c ∧ s.sound 255 ∧ a.state = .opened ∧ a.ceiling < a.balance + (1501 : BitVec 32).toNat) ∧
    (2147483647 < (2147483648 : BitVec 32).toNat ∧ (2 : Byte) ≠ 0 ∧ (2 : Byte) ≠ 1) :=
  ⟨⟨atB _, by decide, by decide⟩, ⟨atB _, 255, ⟨9, .opened⟩, by decide +kernel, rfl⟩,
    ⟨⟨rfl, rfl⟩, fun _ _ h => full_tag h, fun j h => by rw [full_some] at h; cases h⟩,
    ⟨atB _, takenSound sound255, by decide +kernel, by decide +kernel⟩,
    ⟨atB _, takenSound sound255, by decide +kernel, by decide +kernel⟩, by decide⟩

theorem witness_AccountChecks :
    (namedAccount (.readAccount 1 6) = some 6 ∧ (taken (.readAccount 1 6) sample).atBlock (.readAccount 1 6) ∧
      (taken (.readAccount 1 6) sample).mapState 6 = .free) ∧
    (namedAccount (.freeze 1 3) = some 3 ∧ (taken (.freeze 1 3) sample).atBlock (.freeze 1 3) ∧
      (taken (.freeze 1 3) sample).mapState 3 = .damaged) ∧
    (namedAccount (.thaw 1 5) = some 5 ∧ (taken (.thaw 1 5) sample).atBlock (.thaw 1 5) ∧ (taken (.thaw 1 5) sample).mismatched 5) ∧
    (namedAccount (.setClass 1 4 0) = some 4 ∧ (taken (.setClass 1 4 0) sample).atBlock (.setClass 1 4 0) ∧
      (taken (.setClass 1 4 0) sample).sound 4 ∧ ((taken (.setClass 1 4 0) sample).account 4).state = .retired ∧
      acceptsRetired (.setClass 1 4 0) = false) :=
  ⟨⟨rfl, atB _, free6⟩, ⟨rfl, atB _, damaged3⟩, ⟨rfl, atB _, takenMismatched mismatched5⟩,
    ⟨rfl, atB _, takenSound sound4, by decide +kernel, rfl⟩⟩

theorem witness_SetLimitsAndClassComplete :
    (let c := Instr.setLimits 1 255 (-2147483648) (-2147483648) 500
     let s := taken c sample
     s.atBlock c ∧ s.sound 255 ∧ (s.account 255).state = .opened ∧ (-2147483648 : BitVec 32).toInt ≤ 0 ∧
      (-2147483648 : BitVec 32).toInt < (500 : BitVec 40).toInt ∧ (s.account 255).balance ≤ (500 : BitVec 40).toInt) ∧
    (let c := Instr.setClass 1 2 15
     let s := taken c sample
     s.atBlock c ∧ s.sound 2 ∧ (s.account 2).state = .frozen ∧ (15 : Byte).toNat ≤ 15) :=
  ⟨⟨atB _, takenSound sound255, by decide +kernel, by decide, by decide, by decide +kernel⟩,
    ⟨atB _, takenSound sound2, by decide +kernel, by decide⟩⟩

/-- A forced debit of the greatest amount, a debit of all that is spendable, and a credit up to the ceiling. -/
theorem witness_AdjustCompletes :
    (let c := Instr.adjust 1 255 0 2147483647 1
     let s := taken c sample
     s.atBlock c ∧ s.sound 255 ∧ (s.account 255).state = .opened ∧ (2147483647 : BitVec 32).toNat ≤ 2147483647) ∧
    (let c := Instr.adjust 1 255 0 510 0
     let s := taken c sample
     let a := s.account 255
     s.atBlock c ∧ s.sound 255 ∧ ((510 : BitVec 32).toNat : Int) ≤ a.balance - a.heldTotal - a.floor) ∧
    (let c := Instr.adjust 1 255 1 1500 0
     let s := taken c sample
     let a := s.account 255
     s.atBlock c ∧ s.sound 255 ∧ a.balance + (1500 : BitVec 32).toNat ≤ a.ceiling) :=
  ⟨⟨atB _, takenSound sound255, by decide +kernel, by decide⟩, ⟨atB _, takenSound sound255, by decide +kernel⟩,
    ⟨atB _, takenSound sound255, by decide +kernel⟩⟩

theorem witness_MovementsOfARecord :
    (let a := consumer 1 500; 549755814388 ≤ (a.balance + 549755813888).toNat ∧ 1500 ≤ (a.ceiling - a.balance).toNat) ∧
    (let a := consumer 1 (-549755813888); (a.balance + 549755813888).toNat < 1) ∧
    (let a := consumer 1 2000; (a.ceiling - a.balance).toNat < 1) := by decide

theorem witness_SettleLeavesConditionsEvaluated : ((sample.settle 0).account 0).holdList ≠ [] := by decide +kernel

theorem witness_SettleWithoutRefillOrBreaking :
    (let a := sample.account 255; a.refill = none ∧ a.holdList = []) ∧
    (let a := sample.account 0; decide (a.balance - a.heldTotal ≤ a.lowMark) = false ∧
      decide (a.balance - a.heldTotal ≤ a.floor) = false) := by decide +kernel

theorem witness_FreezeAndThawComplete :
    (let s := taken (.freeze 1 0) sample; s.atBlock (.freeze 1 0) ∧ s.sound 0 ∧ (s.account 0).state = .opened) ∧
    (let s := taken (.thaw 1 2) sample; s.atBlock (.thaw 1 2) ∧ s.sound 2 ∧ (s.account 2).state = .frozen) :=
  ⟨⟨atB _, takenSound sound0, by decide +kernel⟩, ⟨atB _, takenSound sound2, by decide +kernel⟩⟩

theorem witness_CloseAndReleaseComplete :
    (let s := taken (.close 1 254) sample
     s.atBlock (.close 1 254) ∧ s.sound 254 ∧ (s.account 254).state = .opened ∧ (s.account 254).bindingCount = 0 ∧
      (s.account 254).dependents = 0) ∧
    (let s := taken (.release 1 4) sample; s.atBlock (.release 1 4) ∧ s.sound 4 ∧ (s.account 4).state = .retired) :=
  ⟨⟨atB _, takenSound sound254, by decide +kernel, by decide +kernel, by decide +kernel⟩,
    ⟨atB _, takenSound sound4, by decide +kernel⟩⟩

theorem witness_AccountReadsComplete :
    ((taken (.readAccount 1 4) sample).atBlock (.readAccount 1 4) ∧ (taken (.readAccount 1 4) sample).sound 4) ∧
    ((taken (.readFigures 1 0) sample).atBlock (.readFigures 1 0) ∧ (taken (.readFigures 1 0) sample).sound 0) ∧
    ((taken (.clearSticky 1 255) sample).atBlock (.clearSticky 1 255) ∧ (taken (.clearSticky 1 255) sample).sound 255) ∧
    (taken (.findTag 1 0) sample).atBlock (.findTag 1 0) ∧
    (∀ j p, (taken (.findTag 1 77) sample).pair j = some p → p.tag ≠ 77) ∧
    (let s := taken (.findTag 1 9) (put 255 (consumer 9 0) State.reset)
     s.atBlock (.findTag 1 9) ∧ s.pair 255 = some ⟨9, .opened⟩ ∧ ∀ j q, s.pair j = some q → q.tag = 9 → j = 255) :=
  ⟨⟨atB _, takenSound sound4⟩, ⟨atB _, takenSound sound0⟩, ⟨atB _, takenSound sound255⟩, atB _,
    tagFree_of (by decide +kernel), ⟨rfl, rfl⟩, by decide +kernel, fun _ _ h _ => (put_pair ((taken_pair _ _ _).symm.trans h)).1.symm⟩

theorem witness_TariffCommandsComplete :
    (let w := Instr.writeTariff 1 15 65535 15 1
     (taken w sample).atBlock w ∧ (15 : Byte) = BitVec.ofNat 8 (15 : TariffIdx).val ∧ (15 : Byte).toNat ≤ 15) ∧
    (taken (.readTariff 1 0) sample).atBlock (.readTariff 1 0) ∧ 15 < (16 : Byte).toNat ∧ (2 : Byte) ≠ 0 ∧ (2 : Byte) ≠ 1 :=
  ⟨⟨atB _, rfl, by decide⟩, atB _, by decide⟩

theorem witness_BindChannelCompletes :
    let c := Instr.bindChannel 1 (BitVec.ofNat 8 (7 : Chan).val) 255 (BitVec.ofNat 8 (0 : TariffIdx).val) (BitVec.ofNat 8 (15 : TariffIdx).val)
    let s := taken c sample
    s.atBlock c ∧ s.sound 255 ∧ (s.account 255).state = .opened ∧ (s.account 255).kind = .consumer ∧
      (s.channel 7).state = .unbound ∧ (s.channel 7).permit = .off :=
  ⟨atB _, takenSound sound255, by decide +kernel, by decide +kernel, by decide +kernel, by decide +kernel⟩

theorem witness_UnbindChannelCompletes :
    (let c := Instr.unbindChannel 1 (BitVec.ofNat 8 (0 : Chan).val)
     let s := taken c sample
     s.atBlock c ∧ (s.channel 0).state ≠ .unbound ∧ (s.channel 0).slot = 0 ∧ s.sound 0) ∧
    (let c := Instr.unbindChannel 1 (BitVec.ofNat 8 (2 : Chan).val)
     let s := taken c sample
     s.atBlock c ∧ (s.channel 2).state ≠ .unbound ∧ (s.channel 2).slot = 3 ∧ s.mapState 3 = .damaged) ∧
    (let c := Instr.unbindChannel 1 (BitVec.ofNat 8 (3 : Chan).val)
     let s := taken c sample
     s.atBlock c ∧ (s.channel 3).state ≠ .unbound ∧ (s.channel 3).slot = 5 ∧ s.mismatched 5) :=
  ⟨⟨atB _, by decide +kernel, by decide +kernel, takenSound sound0⟩,
    ⟨atB _, by decide +kernel, by decide +kernel, damaged3⟩,
    ⟨atB _, by decide +kernel, by decide +kernel, takenMismatched mismatched5⟩⟩

theorem witness_ChannelCommandsComplete :
    (let c := Instr.resyncChannel 1 (BitVec.ofNat 8 (3 : Chan).val)
     (taken c sample).atBlock c ∧ ((taken c sample).channel 3).state ≠ .unbound) ∧
    (let c := Instr.readChannel 1 (BitVec.ofNat 8 (7 : Chan).val) 1; (taken c sample).atBlock c) ∧
    (let c := Instr.setChannelOptions 1 (BitVec.ofNat 8 (0 : Chan).val) 255 255 1 0; (taken c sample).atBlock c) :=
  ⟨⟨atB _, by decide +kernel⟩, atB _, atB _⟩

/-- Frames on lines 0, 7 and 1: accepted on LIVE channel 0 with sync 15 (sequence 15 again, and 1), on UNBOUND channel 7,
and on channel 3, which has no sync; a wrong check is no good frame. -/
theorem witness_ReportRowsComplete :
    sample.phase = .run ∧ ¬(crc8 0xFF [0, 0, 0, 0, 0] = 0) ∧
    (crc8 0xFF [0x70, 0, 0, 0, 0] = crc8 0xFF [0x70, 0, 0, 0, 0] ∧ (0x70 : Byte).toNat / 16 = (7 : Chan).val ∧
      (0 : Byte) &&& 0xFC = 0 ∧ (sample.channel 7).state = .unbound) ∧
    ((0x0F : Byte).toNat / 16 = (0 : Chan).val ∧ (sample.channel 0).state ≠ .unbound ∧
      (sample.channel 0).sync = some (Fin.ofNat 16 ((0x0F : Byte).toNat % 16))) ∧
    ((0x01 : Byte).toNat / 16 = (0 : Chan).val ∧ (0x03 : Byte) &&& 0xFC = 0 ∧
      (sample.channel 0).sync ≠ some (Fin.ofNat 16 ((0x01 : Byte).toNat % 16))) ∧
    ((sample.channel 3).sync = none ∧ (sample.channel 3).state = .live) ∧ (sample.channel 3).receiver = .hunting ∧
    ((after (.frameSync 3) sample).channel 3).receiver = .assembling := by decide +kernel

theorem witness_UsageChargeCompletes :
    sample.phase = .run ∧
    ((sample.channel 0).requests ≠ [] ∧ (sample.channel 0).state ≠ .unbound ∧ (sample.account (sample.channel 0).slot).state = .opened) ∧
    ((sample.channel 1).requests ≠ [] ∧ (sample.channel 1).state ≠ .unbound ∧ (sample.account (sample.channel 1).slot).state = .frozen) ∧
    ((sample.channel 2).requests ≠ [] ∧ (sample.channel 2).state ≠ .unbound ∧ sample.mapState (sample.channel 2).slot = .damaged) ∧
    ((sample.channel 3).requests ≠ [] ∧ (sample.channel 3).state ≠ .unbound ∧ (sample.channel 3).slot = 5) ∧
    soundB sample (sample.channel 0).slot = true ∧ soundB sample (sample.channel 1).slot = true ∧
    ((sample.channel 1).deferredImport + 4294967288 ≤ 4294967295 ∧ 4294967295 < (sample.channel 1).deferredImport + 4294967289) := by
  decide +kernel

/-- Channel 0 draws on hold 0 of 40 units: a charge below it, one that spends it, and one beyond it; channel 2 draws on none. -/
theorem witness_ChargeQuantityApplies :
    let price (d : Chan) (q : Nat) : Nat := (sample.tariff (sample.channel d).importTariff).charge q
    price 0 0 = 0 ∧ price 0 39 = 39 ∧ price 0 40 = 40 ∧ price 0 41 = 41 ∧ (sample.channel 0).drawing = some ⟨0, 0⟩ ∧
      sample.honoured ⟨0, 0⟩ = true ∧ (sample.hold 0).amount = 40 ∧ (sample.channel 2).drawing = none ∧
      (sample.tariff (sample.channel 0).exportTariff).charge 3 ≠ 0 := by decide +kernel

theorem witness_PlaceHoldCompletes :
    (let c := Instr.placeHold 1 255 510 0
     let s := taken c sample
     let a := s.account 255
     s.atBlock c ∧ s.sound 255 ∧ a.state = .opened ∧ a.kind = .consumer ∧
      ((510 : BitVec 32).toNat : Int) ≤ a.balance - a.heldTotal - a.floor ∧ a.holdList.length < 8 ∧
      (s.hold 3).held = false ∧ ∀ k < (3 : HoldIdx), (s.hold k).held = true) ∧
    (let c := Instr.placeHold 1 2 1 0; (taken c sample).atBlock c ∧ (taken c sample).sound 2 ∧ ((taken c sample).account 2).state = .frozen) ∧
    (let c := Instr.placeHold 1 254 1 0; (taken c sample).atBlock c ∧ (taken c sample).sound 254 ∧ ((taken c sample).account 254).kind ≠ .consumer) ∧
    (let c := Instr.placeHold 1 255 511 0
     let a := (taken c sample).account 255
     a.balance - a.heldTotal - a.floor < (511 : BitVec 32).toNat) ∧
    (let c := Instr.placeHold 1 255 1 0
     let s := taken c (put 255 { consumer 9 500 with heldTotal := 8, holdList := [3, 4, 5, 6, 7, 8, 9, 10] } sample)
     s.atBlock c ∧ soundB s 255 = true ∧ 8 ≤ (s.account 255).holdList.length) ∧
    (let c := Instr.placeHold 1 255 1 0
     let s : State := taken c { sample with holds := Vector.replicate 64 ⟨true, 0, 0, 1, 0, false, none⟩ }
     s.atBlock c ∧ soundB s 255 = true ∧ ∀ h, (s.hold h).held = true) :=
  ⟨⟨atB _, takenSound sound255, by decide +kernel, by decide +kernel, by decide +kernel, by decide +kernel, by decide +kernel,
      by decide +kernel⟩,
    ⟨atB _, takenSound sound2, by decide +kernel⟩, ⟨atB _, takenSound sound254, by decide +kernel⟩, by decide +kernel,
    ⟨⟨rfl, rfl⟩, by decide +kernel, by decide +kernel⟩, ⟨rfl, rfl⟩, by decide +kernel, by decide +kernel⟩

/-- Handle 321 is entry 1 at generation 5, of 60 units on slot 0; handle 3 is honoured by no entry. -/
theorem witness_CaptureAndReleaseHoldComplete :
    (let c := Instr.captureHold 1 321 60
     let s := taken c sample
     s.atBlock c ∧ s.honoured (Handle.ofWord 321) = true ∧ s.sound 0 ∧ (s.hold (Handle.ofWord 321).idx).slot = 0 ∧
      (60 : BitVec 32).toNat ≤ (s.hold (Handle.ofWord 321).idx).amount ∧ (s.hold (Handle.ofWord 321).idx).amount < (61 : BitVec 32).toNat) ∧
    (let c := Instr.releaseHold 1 321; (taken c sample).atBlock c) ∧
    (let c := Instr.releaseHold 1 3; (taken c sample).atBlock c ∧ (taken c sample).honoured (Handle.ofWord 3) = false) :=
  ⟨⟨atB _, by decide +kernel, takenSound sound0, by decide +kernel, by decide +kernel, by decide +kernel⟩, atB _, atB _, by decide +kernel⟩

theorem witness_HoldReadsAndDrawingComplete :
    (let c := Instr.readHold 1 0; (taken c sample).atBlock c ∧ (taken c sample).honoured (Handle.ofWord 0) = true) ∧
    (let c := Instr.listHolds 1 4; (taken c sample).atBlock c ∧ (taken c sample).sound 4) ∧
    (let c := Instr.drawHold 1 (BitVec.ofNat 8 (0 : Chan).val) 321
     let s := taken c (sample.stopDrawing 0)
     s.atBlock c ∧ s.honoured (Handle.ofWord 321) = true ∧ (s.hold 1).slot = 0 ∧ soundB s 0 = true ∧
      (s.channel 0).state ≠ .unbound ∧ (s.channel 0).slot = 0 ∧ (s.channel 0).drawing = none ∧ (s.hold 1).drawnBy = none) ∧
    (let c := Instr.endDraw 1 (BitVec.ofNat 8 (0 : Chan).val)
     (taken c sample).atBlock c ∧ ((taken c sample).channel 0).drawing = some ⟨0, 0⟩ ∧ (taken c sample).honoured ⟨0, 0⟩ = true) :=
  ⟨⟨atB _, by decide +kernel⟩, ⟨atB _, takenSound sound4⟩,
    ⟨⟨rfl, rfl⟩, by decide +kernel, by decide +kernel, by decide +kernel, by decide +kernel, by decide +kernel, by decide +kernel, by decide +kernel⟩,
    ⟨atB _, by decide +kernel, by decide +kernel⟩⟩

theorem witness_HoldExpiryRowsComplete :
    sample.phase = .run ∧
    ((⟨9, 3⟩ : Handle) ∈ sample.expiryRequests ∧ sample.honoured ⟨9, 3⟩ = false) ∧
    ((⟨5, 1⟩ : Handle) ∈ sample.expiryRequests ∧ sample.honoured ⟨5, 1⟩ = true ∧ soundB sample (sample.hold 1).slot = true) ∧
    ((⟨0, 2⟩ : Handle) ∈ sample.expiryRequests ∧ sample.honoured ⟨0, 2⟩ = true ∧ (sample.hold 2).slot = 5) ∧
    (sample.refPresent = true ∧ (sample.hold 0).held = true ∧ (sample.hold 0).expiryDue = false ∧ (sample.hold 0).lifetime = 1) := by
  decide +kernel

theorem witness_PermitCommandsComplete :
    (let c := Instr.restorePermit 1 (BitVec.ofNat 8 (0 : Chan).val); (taken c sample).atBlock c ∧ ((taken c sample).channel 0).state ≠ .unbound) ∧
    (let c := Instr.cutPermit 1 (BitVec.ofNat 8 (3 : Chan).val); (taken c sample).atBlock c ∧ ((taken c sample).channel 3).state ≠ .unbound) ∧
    (let c := Instr.cutPermit 1 (BitVec.ofNat 8 (7 : Chan).val); (taken c sample).atBlock c ∧ ((taken c sample).channel 7).state = .unbound) :=
  ⟨⟨atB _, by decide +kernel⟩, ⟨atB _, by decide +kernel⟩, ⟨atB _, by decide +kernel⟩⟩

/-- Each row of R93: eligible and not while OFF; barred, marked and clear while ON and while in GRACE. -/
theorem witness_PermitEvaluation :
    let live := { Channel.zero with state := .live }
    let on := { live with permit := .on }
    Channel.zero.state = .unbound ∧ (live.permit = .off ∧ live.eligible = true) ∧
    ({ live with hostCut := true } : Channel).eligible = false ∧ (on.permit = .on ∧ on.emptyMark = false) ∧
    ({ on with cutLatch := true } : Channel).cutLatch = true ∧ ({ on with emptyMark := true } : Channel).emptyMark = true ∧
    ({ live with permit := .grace, emptyMark := true } : Channel).permit = .grace := by decide

theorem witness_EmptyEvents :
    let on := { Channel.zero with state := .live, permit := .on }
    (on.permit = .on ∧ on.grace = 0) ∧ 0 < ({ on with grace := 1 } : Channel).grace ∧
    ({ on with permit := .grace } : Channel).permit = .grace ∧
    (Channel.zero.permit = .off ∧ Channel.zero.autoRestore = false) ∧
    ({ Channel.zero with autoRestore := true } : Channel).autoRestore = true := by decide

theorem witness_PermitOutput : sample.permitWf ∧ sample.pmt 0 = true := ⟨sample_permitWf, by decide +kernel⟩

theorem witness_SecondEventCompletes :
    (sample.phase = .run ∧ sample.refPresent = true) ∧ (after .referenceLost sample).refPresent = false ∧
    (sample.pending = [] ∧ sample.divider < 32767) ∧ 32767 ≤ ({ sample with divider := 32767 } : State).divider := by decide +kernel

theorem witness_TimerAndReferenceRowsComplete :
    (sample.phase = .run ∧ sample.refPresent = true) ∧
    ((sample.channel 3).permit = .grace ∧ (sample.channel 3).graceRemaining ≤ 1) ∧
    (2 ≤ ({ sample.channel 3 with graceRemaining := 2 } : Channel).graceRemaining) ∧
    ((sample.channel 3).state ≠ .unbound ∧ 0 < (sample.channel 3).silenceTimeout ∧ (sample.channel 3).silenceCounter = 1) ∧
    (2 ≤ (sample.channel 0).silenceCounter ∧ 0 < (sample.channel 0).silenceTimeout) ∧ (sample.channel 7).state = .unbound := by
  decide +kernel

theorem witness_RefillCommandsComplete :
    (let c := Instr.setRefill 1 0 254 2147483647 255
     let s := taken c sample
     s.atBlock c ∧ s.sound 0 ∧ (s.account 0).state = .opened ∧ (s.account 0).kind = .consumer ∧ s.sound 254 ∧
      (s.account 254).kind = .pool ∧ (s.account 254).state = .opened ∧ (s.account 0).refill = some ⟨1, 50, 2⟩) ∧
    (let c := Instr.clearRefill 1 0; (taken c sample).atBlock c) ∧
    (let c := Instr.clearRefill 1 255
     (taken c sample).atBlock c ∧ (taken c sample).sound 255 ∧ ((taken c sample).account 255).refill = none) ∧
    sample.sound 1 ∧ sample.mapState 3 = .damaged ∧ sample.mismatched 5 :=
  ⟨⟨atB _, takenSound sound0, by decide +kernel, by decide +kernel, takenSound sound254, by decide +kernel, by decide +kernel,
      by decide +kernel⟩, atB _, ⟨atB _, takenSound sound255, by decide +kernel⟩, sound1, damaged3, mismatched5⟩

/-- Pool slot 1 holds 1,010 spendable units: attempts of 1,010 and of 1,011 from slot 255, whose headroom is 1,500, and one
from a record at its ceiling. -/
theorem witness_RefillAttemptOutcomes :
    (let p := sample.account 1
     let a := sample.account 255
     p.state = .opened ∧ min 1010 (a.ceiling - a.balance).toNat ≠ 0 ∧
      ((min 1010 (a.ceiling - a.balance).toNat : Nat) : Int) ≤ p.balance - p.heldTotal - p.floor ∧
      p.balance - p.heldTotal - p.floor < (min 1011 (a.ceiling - a.balance).toNat : Nat)) ∧
    min 1 ((consumer 1 2000).ceiling - (consumer 1 2000).balance).toNat = 0 ∧
    (sample.account 2).state ≠ .opened ∧ (255 : Slot) ≠ 1 ∧ (255 : Slot) ≠ 2 ∧ (255 : Slot) ≠ 3 ∧ (255 : Slot) ≠ 5 := by
  decide +kernel

theorem witness_SweepCommandsComplete :
    (let c := Instr.startSweep 1 255 0 2147483647 15 255; (taken c sample).atBlock c ∧ (taken c sample).sweep.state = .idle ∧
      (255 : Byte) ≠ 0 ∧ (15 : Byte) = BitVec.ofNat 8 (15 : Fin 16).val) ∧
    (let c := Instr.stopSweep 1
     let s : State := taken c { sample with sweep := ⟨.running, 1, .debit, 5, .all, 255, 1, .none, false⟩ }
     s.atBlock c ∧ s.sweep.state = .running) ∧
    (let c := Instr.readSweep 1; (taken c sample).atBlock c) ∧ (15 < (16 : Byte).toNat ∧ (16 : Byte) ≠ 0xFF) :=
  ⟨⟨atB _, rfl, by decide, rfl⟩, ⟨⟨rfl, rfl⟩, rfl⟩, atB _, by decide⟩

/-- A running sweep at slots 255 (applied, the last), 1 (a pool), 6 (FREE), 3 (DAMAGED) and 5 (a mismatch). -/
theorem witness_SweepStepCompletes :
    (let s : State := { sample with sweep := ⟨.running, 1, .debit, 5, .all, 255, 1, .none, false⟩ }
     s.phase = .run ∧ s.sweep.state = .running ∧ s.sweep.cursor = (255 : Slot).val ∧ s.sound 255 ∧ s.sweep.appliesTo (s.account 255) = true) ∧
    (let s : State := { sample with sweep := ⟨.running, 1, .debit, 5, .cls 3, 1, 1, .none, false⟩ }
     s.sweep.cursor = (1 : Slot).val ∧ s.sound 1 ∧ (s.account 1).kind ≠ .consumer) ∧
    sample.mapState 6 = .free ∧ sample.mapState 3 = .damaged ∧ sample.mismatched 5 :=
  ⟨⟨rfl, rfl, rfl, sound255, by decide +kernel⟩, ⟨rfl, sound1, by decide +kernel⟩, free6, damaged3, mismatched5⟩

theorem witness_NoticeSettingsComplete :
    (let src := Source.account 255
     let c := Instr.setNotice 1 (BitVec.ofNat 16 src.number) 15 3 0x03FF 1
     let s := taken c sample
     s.atBlock c ∧ src ≠ .fault ∧ s.sound 255 ∧ (15 : Byte).toNat ≤ 15 ∧ (3 : Byte).toNat ≤ 3 ∧ (0x03FF : BitVec 16) &&& ~~~src.causeBits = 0) ∧
    ((0x0400 : BitVec 16) &&& ~~~(Source.account 255).causeBits ≠ 0 ∧ 15 < (16 : Byte).toNat ∧ 3 < (4 : Byte).toNat) ∧
    (taken (.noticesOn 1) sample).atBlock (.noticesOn 1) ∧ (taken (.noticesOff 1) sample).atBlock (.noticesOff 1) ∧
    (let c := Instr.readPending 1 (BitVec.ofNat 16 (Source.channel 7).number); (taken c sample).atBlock c) ∧
    (let c := Instr.clearCauses 1 (BitVec.ofNat 16 Source.fault.number) 7
     (taken c sample).atBlock c ∧ (7 : BitVec 16) &&& ~~~Source.fault.causeBits = 0) :=
  ⟨⟨atB _, by decide, takenSound sound255, by decide, by decide, by decide⟩, by decide, atB _, atB _, atB _, atB _, by decide⟩

/-- The fault source; a winning account, sound, and one whose read finds a mismatch; nothing pending. -/
theorem witness_NoticeServiceCompletes :
    let c := Instr.takeNotice 1
    let asking : NoticeRec := ⟨15, 0, 2, true, 3⟩
    (let s : State := taken c { sample with faults := ⟨1, 1⟩, stack := [⟨15, .device⟩] }
     s.atBlock c ∧ s.faults.pending ≠ 0 ∧ s.currentLevel < 16) ∧
    (let s : State := taken c { sample.setNoticeOf (.account 255) asking with globalEnable := true }
     s.atBlock c ∧ s.winner = some (.account 255) ∧ soundB s 255 = true) ∧
    (let s : State := taken c (spoil 5 ({ sample.setNoticeOf (.account 5) asking with globalEnable := true }))
     s.atBlock c ∧ s.winner = some (.account 5) ∧ s.mapState 5 = .opened ∧ (s.account 5).syndrome ≠ 0) ∧
    (let s := taken c sample; s.atBlock c ∧ s.faults.pending = 0 ∧ s.winner = none) ∧
    (let s : State := taken (.endNotice 1) { sample with stack := [⟨1, .device⟩] }
     s.atBlock (.endNotice 1) ∧ s.stack = [⟨1, .device⟩]) ∧
    (taken (.readStack 1) sample).atBlock (.readStack 1) :=
  ⟨⟨⟨rfl, rfl⟩, by decide +kernel, by decide +kernel⟩, ⟨⟨rfl, rfl⟩, by decide +kernel, by decide +kernel⟩,
    ⟨⟨rfl, rfl⟩, by decide +kernel, by decide +kernel, by decide +kernel⟩, ⟨atB _, by decide +kernel, by decide +kernel⟩, ⟨⟨rfl, rfl⟩, rfl⟩, atB _⟩

theorem witness_WinnerAndAttention :
    ({ sample.setNoticeOf (.channel 7) ⟨1, 3, 1, true, 1⟩ with globalEnable := true } : State).attn = true ∧ sample.attn = false := by
  decide +kernel

theorem witness_DamageConsequences :
    sample.phase = .run ∧ ({ sample with phase := .starting } : State).phase = .starting ∧
    ((sample.hold 2).held = true ∧ (sample.hold 2).slot = 5) ∧ ((sample.channel 3).state = .live ∧ (sample.channel 3).slot = 5) := by
  decide +kernel

/-- Slot 3 rebuilt with limits of 0, 0 and 1 and a balance of 1; its specification kept, dropped, or naming itself. -/
theorem witness_RebuildAndNextDamagedComplete :
    (let c := Instr.rebuildAccount 1 3 1 0 0 1 0 0 255
     let s := taken c sample
     s.atBlock c ∧ s.pair 3 = some ⟨4, .damaged⟩ ∧ (0 : BitVec 32).toInt < (1 : BitVec 40).toInt ∧ (1 : BitVec 40).toInt ≤ (1 : BitVec 40).toInt) ∧
    (sample.sound 1 ∧ (sample.account 1).state = .opened ∧ (sample.account 1).kind = .pool) ∧
    (sample.sound 255 ∧ (sample.account 255).kind ≠ .pool) ∧
    (let c := Instr.nextDamaged 1 0
     let s := taken c sample
     s.atBlock c ∧ s.pair 3 = some ⟨4, .damaged⟩ ∧ ∀ k, (0 : Slot) ≤ k → k < 3 → s.mapState k ≠ .damaged) ∧
    (let c := Instr.nextDamaged 1 4
     let s := taken c sample
     s.atBlock c ∧ ∀ k, (4 : Slot) ≤ k → s.mapState k ≠ .damaged) :=
  ⟨⟨atB _, by decide +kernel, by decide, by decide⟩, ⟨sound1, by decide +kernel, by decide +kernel⟩,
    ⟨sound255, by decide +kernel⟩, ⟨atB _, by decide +kernel, by decide +kernel⟩, ⟨atB _, by decide +kernel⟩⟩

theorem witness_DiscardAccountCompletes :
    (let c := Instr.discardAccount 1 3; (taken c sample).atBlock c ∧ (taken c sample).mapState 3 = .damaged) ∧
    (let c := Instr.discardAccount 1 6; (taken c sample).atBlock c ∧ (taken c sample).mapState 6 = .free) ∧
    (let c := Instr.discardAccount 1 255
     (taken c sample).atBlock c ∧ (taken c sample).mapState 255 ≠ .free ∧ (taken c sample).mapState 255 ≠ .damaged) ∧
    (sample.account 0).refill = some ⟨1, 50, 2⟩ ∧ (sample.account 3).refill = none :=
  ⟨⟨atB _, damaged3⟩, ⟨atB _, free6⟩, ⟨atB _, by decide +kernel, by decide +kernel⟩, by decide +kernel, by decide +kernel⟩

theorem witness_SupplyRowsComplete :
    (sample.phase = .run ∧ sample.sweep.state = .idle ∧ ∀ f, sample.port ≠ .busy f) ∧
    (∃ s : State, s.phase = .starting ∧ s.sweep.state = .running ∧ ∃ f, s.port = .busy f) ∧
    sample.phase ≠ .off ∧ (let s := after .supplyOff sample; s.phase = .off ∧ s.retention = false) :=
  ⟨⟨rfl, rfl, by rintro f ⟨⟩⟩,
    ⟨{ sample with phase := .starting, sweep := ⟨.running, 1, .debit, 5, .all, 0, 0, .none, false⟩, port := .busy [] }, rfl, rfl, _, rfl⟩,
    by decide +kernel, by decide +kernel⟩

theorem witness_WarmStartsComplete :
    (let s := after .enterRetain sample; s.phase = .retain ∧ s.retention = true) ∧ (sample.phase = .run ∧ sample.resetN = true) ∧
    (taken (.restart 1) sample).atBlock (.restart 1) ∧ ¬(sample.phase = .starting ∧ sample.startCause = .cold) ∧
    (∃ s : State, s.phase = .starting ∧ s.startCause = .cold ∧ s.resetN = false) :=
  ⟨by decide +kernel, by decide +kernel, atB _, by decide +kernel,
    { sample with phase := .starting, startCause := .cold, resetN := false }, rfl, rfl, rfl⟩

theorem witness_StartCheckRowsComplete :
    let s (n : Nat) : State := { sample with phase := .starting, startCause := .supply, checkPosition := n }
    (∀ n, (s n).phase = .starting ∧ (s n).startCause ≠ .cold ∧ (s n).resetN = true) ∧
    ((s 6).checkPosition = (6 : Slot).val ∧ (s 6).mapState 6 = .free) ∧
    ((s 255).checkPosition = (255 : Slot).val ∧ (s 255).sound 255) ∧
    ((s 5).checkPosition = (5 : Slot).val ∧ (s 5).mismatched 5) ∧ (s 256).checkPosition = 256 :=
  ⟨fun _ => ⟨rfl, by rintro ⟨⟩, rfl⟩, ⟨rfl, free6⟩, ⟨rfl, sound255⟩, ⟨rfl, mismatched5⟩, rfl⟩

theorem witness_EraseTablesAndDeviceStatusComplete :
    (taken (.eraseTables 1) sample).atBlock (.eraseTables 1) ∧
    (∃ s : State, s.phase = .starting ∧ s.port = .busy (Instr.deviceStatus 1).frame) :=
  ⟨atB _, taken (.deviceStatus 1) { sample with phase := .starting }, rfl, rfl⟩

/-! The refusals named beside a completion: what their premises ask of the records and channels, met by the sample. Each
command is at its block by `atB`, which changes neither. -/

/-- Slots 0 (bound), 1 (a pool with a dependent), 2 (FROZEN) and 255 (a balance of 500 above a ceiling of 499). -/
theorem witness_refusals_of_account_commands :
    ((sample.account 0).state = .opened ∧ 0 < (sample.account 0).bindingCount) ∧
    ((sample.account 1).bindingCount = 0 ∧ (sample.account 1).kind = .pool ∧ 0 < (sample.account 1).dependents) ∧
    (sample.account 2).state = .frozen ∧ (499 : BitVec 40).toInt < (sample.account 255).balance ∧
    ¬((1 : BitVec 32).toInt ≤ 0) ∧ 15 < (16 : Byte).toNat := by decide +kernel

/-- Channel number 8, tariff index 16, a pool, a bound channel and an UNBOUND one. -/
theorem witness_refusals_of_channel_commands :
    7 < (8 : Byte).toNat ∧ ¬((7 : Byte).toNat ≤ 7 ∧ (15 : Byte).toNat ≤ 15 ∧ (16 : Byte).toNat ≤ 15) ∧
    ((7 : Byte).toNat ≤ 7 ∧ (15 : Byte).toNat ≤ 15) ∧ (sample.account 1).kind ≠ .consumer ∧
    (sample.account 255).kind = .consumer ∧ (sample.channel 3).state ≠ .unbound ∧ (sample.channel 7).state = .unbound ∧
    ((2 : Byte) ≠ 0 ∧ (2 : Byte) ≠ 1) := by decide +kernel

/-- Handle 2 stands on the mismatched slot 5; handle 321 on slot 0, of which channel 0 draws handle 0 and channel 3 is no
channel; after END DRAW nothing draws; a drawing of a stale handle. -/
theorem witness_refusals_of_hold_commands :
    (sample.honoured (Handle.ofWord 2) = true ∧ (sample.hold (Handle.ofWord 2).idx).slot = 5) ∧
    (sample.honoured (Handle.ofWord 321) = true ∧ (sample.hold 1).slot = 0 ∧ (sample.channel 3).slot ≠ 0 ∧
      (sample.channel 0).state ≠ .unbound ∧ (sample.channel 0).slot = 0 ∧ (sample.channel 0).drawing ≠ none) ∧
    (let s := sample.setChannel 4 { sample.channel 0 with drawing := none }
     (s.channel 4).slot = 0 ∧ (s.channel 4).drawing = none ∧ s.honoured (Handle.ofWord 0) = true ∧ (s.hold 0).drawnBy ≠ none) ∧
    (sample.channel 7).drawing = none ∧
    (let s := sample.setChannel 0 { sample.channel 0 with drawing := some ⟨7, 0⟩ }
     (s.channel 0).drawing = some ⟨7, 0⟩ ∧ s.honoured ⟨7, 0⟩ = false) := by decide +kernel

/-- Slots 6, 3, 5, 255 and 4 named as pool: FREE, DAMAGED, mismatched, a consumer, and RETIRED as a pool. -/
theorem witness_refusals_of_refill_commands :
    (sample.account 0).kind = .consumer ∧ (sample.account 1).kind ≠ .consumer ∧ sample.mapState 6 = .free ∧
    sample.mapState 3 = .damaged ∧ (sample.account 255).kind ≠ .pool ∧
    (let s := put 4 { consumer 5 500 with state := .retired, kind := .pool } sample
     soundB s 4 = true ∧ (s.account 4).kind = .pool ∧ (s.account 4).state = .retired) ∧
    2147483647 < (2147483648 : BitVec 32).toNat ∧ (1 : BitVec 32).toNat ≤ 2147483647 := by decide +kernel

/-- Source 1 is no source; sources 206h, 203h and 205h are FREE, DAMAGED and mismatched accounts. -/
theorem witness_refusals_of_notice_commands :
    (∀ src : Source, (1 : BitVec 16) ≠ BitVec.ofNat 16 src.number) ∧
    (0x0206 : BitVec 16) = BitVec.ofNat 16 (Source.account 6).number ∧ sample.mapState 6 = .free ∧
    (0x0203 : BitVec 16) = BitVec.ofNat 16 (Source.account 3).number ∧ sample.mapState 3 = .damaged ∧
    (0x0205 : BitVec 16) = BitVec.ofNat 16 (Source.account 5).number ∧ sample.mismatched 5 := by
  refine ⟨?_, by decide, free6, by decide, damaged3, by decide, mismatched5⟩
  intro src
  cases src with
  | device => decide
  | channel c => revert c; decide
  | account i => revert i; decide +kernel
  | fault => decide

/-- A report frame during the start check: sequence 0 on the PARKED and UNSYNCED channel 1 and on the UNBOUND channel 7; and
sequence 15, a duplicate, on channel 0 once it is PARKED. -/
theorem witness_report_frames_while_starting :
    let s : State := { sample with phase := .starting }
    let t := s.setChannel 0 { s.channel 0 with state := .parked }
    s.phase = .starting ∧
    ((0x10 : Byte).toNat / 16 = (1 : Chan).val ∧ (s.channel 1).state = .parked ∧ (s.channel 1).sync = none) ∧
    ((0x70 : Byte).toNat / 16 = (7 : Chan).val ∧ (s.channel 7).state = .unbound) ∧
    ((0x0F : Byte).toNat / 16 = (0 : Chan).val ∧ t.phase = .starting ∧ (t.channel 0).state = .parked ∧
      (t.channel 0).sync = some (Fin.ofNat 16 ((0x0F : Byte).toNat % 16))) := by decide +kernel

/-- A debit of 450 takes slot 0 into LOW with refills left and its free balance to -50, below the floor, with hold 1 the
youngest; with a refill count of 0 no attempt is due; the sample's own slot 0 has not entered LOW and breaks nothing. -/
theorem witness_settle_stages :
    let s := put 0 { sample.account 0 with balance := 50 } sample
    let a := s.account 0
    let spent := { a with refill := some ⟨1, 50, 0⟩ }
    let calm := sample.account 0
    (a.kind = .consumer ∧ a.state = .opened ∧ a.low = false ∧ a.balance - a.heldTotal ≤ a.lowMark) ∧
    (a.refill = some ⟨1, 50, 2⟩ ∧ a.balance - a.heldTotal ≤ a.floor ∧ a.holdList ≠ [] ∧ a.holdList.getLast? = some 1) ∧
    spent.refill = some ⟨1, 50, 0⟩ ∧ ¬(calm.balance - calm.heldTotal ≤ calm.lowMark) ∧
    ¬(calm.balance - calm.heldTotal ≤ calm.floor) ∧ (s.channel 0).slot = 0 := by decide +kernel

/-- At the completion: a quantity on an OPEN sound account, in each direction; one on the mismatched slot 5; one on the FROZEN
slot 2, one of zero and one of an UNBOUND channel, which are skipped. Channel 0 has a request to withdraw. -/
theorem witness_completion_and_withdrawal :
    let s := (sample.setChannel 0 { sample.channel 0 with deferredImport := 3, deferredExport := 4 }).setChannel 3
      { sample.channel 3 with deferredImport := 5, deferredExport := 6 }
    ((s.channel 0).state ≠ .unbound ∧ s.mapState 0 = .opened ∧ (s.account 0).syndrome = 0 ∧ (s.channel 0).deferredImport ≠ 0 ∧
      (s.channel 0).deferredExport ≠ 0) ∧
    ((s.channel 3).state ≠ .unbound ∧ s.mapState 5 = .opened ∧ (s.account 5).syndrome ≠ 0 ∧ (s.channel 3).deferredImport ≠ 0 ∧
      (s.channel 3).deferredExport ≠ 0) ∧
    s.mapState (s.channel 1).slot ≠ .opened ∧ (sample.channel 0).deferredImport = 0 ∧ (s.channel 7).state = .unbound ∧
    (sample.channel 0).requests = [⟨.imp, 10⟩] := by decide +kernel

/-- Channel 7 requests service at level 1; the stack's top entry of level 16 is the current level. -/
theorem witness_requesting_source :
    ({ sample.setNoticeOf (.channel 7) ⟨1, 3, 1, true, 1⟩ with globalEnable := true } : State).requesting (.channel 7) = true ∧
    ({ sample with stack := [⟨16, .fault⟩, ⟨1, .device⟩] } : State).currentLevel = 16 := by decide +kernel

/-- No transaction without VDD; REBUILD ACCOUNT of slot 3 with a floor of 1, or a balance of 2 above a ceiling of 1. -/
theorem witness_refusals_of_port_and_rebuild :
    ({ sample with phase := .retain } : State).phase = .retain ∧ sample.mapState 3 = .damaged ∧ ¬((1 : BitVec 32).toInt ≤ 0) ∧
    (1 : BitVec 40).toInt < (2 : BitVec 40).toInt := by decide +kernel

end Sys2Proof.Tests
end

section
/-! What the four commands of the Account Table that read a record or the map answer at their block (R27 to R30). -/

namespace Sys2Proof.Proofs.AccountReads

open Sys2Proof.Machine Sys2Proof.Laws

/-! The search of the tag map (R30). -/

theorem slotOfTag_eq_none_iff {s : State} {tag : BitVec 32} :
    s.slotOfTag tag = none ↔ ∀ j p, s.pair j = some p → p.tag ≠ tag := by
  unfold State.slotOfTag allSlots
  rw [List.find?_eq_none]
  constructor
  · intro absent j p hp
    simpa [hp] using absent j (List.mem_finRange j)
  · intro absent j _
    cases hp : s.pair j with
    | none => simp
    | some p => simpa using absent j p hp

theorem pair_of_slotOfTag {s : State} {tag : BitVec 32} {i : Slot} (h : s.slotOfTag tag = some i) :
    ∃ p, s.pair i = some p ∧ p.tag = tag := by
  have found := List.find?_some h
  cases hp : s.pair i with
  | none => simp [hp] at found
  | some p => exact ⟨p, rfl, by simpa [hp] using found⟩

/-- A tag that one slot alone carries is found there; R2 keeps the tags distinct. -/
theorem slotOfTag_of_unique {s : State} {tag : BitVec 32} {i : Slot} {p : MapPair} (hp : s.pair i = some p) (ht : p.tag = tag)
    (unique : ∀ j q, s.pair j = some q → q.tag = tag → j = i) : s.slotOfTag tag = some i := by
  cases found : s.slotOfTag tag with
  | none => exact absurd ht (slotOfTag_eq_none_iff.mp found i p hp)
  | some j =>
    obtain ⟨q, hq, hqt⟩ := pair_of_slotOfTag found
    rw [unique j q hq hqt]

theorem mapState_of_pair {s : State} {i : Slot} {p : MapPair} (hp : s.pair i = some p) : s.mapState i = p.state := by
  simp [State.mapState, hp]

/-! The bodies of the four commands. -/

theorem readAccountBody_sound {s : State} {slot : Slot} (h : s.sound slot) :
    readAccountBody slot s = ⟨s, .ok, readAccountResult (s.account slot)⟩ := withRecord_sound h

theorem readFiguresBody_sound {s : State} {slot : Slot} (h : s.sound slot) :
    readFiguresBody slot s = ⟨s, .ok, readFiguresResult (s.account slot)⟩ := withRecord_sound h

theorem clearStickyBody_sound {s : State} {slot : Slot} (h : s.sound slot) :
    clearStickyBody slot s =
      ⟨s.setAccount slot { s.account slot with clamped := false, overrun := false }, .ok,
        [choiceByte (s.account slot).clamped, choiceByte (s.account slot).overrun]⟩ := withRecord_sound h

theorem findTagBody_zero (s : State) : findTagBody 0 s = refuse s .badArgument := if_pos rfl

theorem findTagBody_absent {s : State} {tag : BitVec 32} (h0 : tag ≠ 0) (absent : ∀ j p, s.pair j = some p → p.tag ≠ tag) :
    findTagBody tag s = refuse s .notFound := by
  unfold findTagBody
  rw [if_neg h0, slotOfTag_eq_none_iff.mpr absent]

theorem findTagBody_held {s : State} {tag : BitVec 32} {i : Slot} {p : MapPair} (h0 : tag ≠ 0) (hp : s.pair i = some p)
    (ht : p.tag = tag) (unique : ∀ j q, s.pair j = some q → q.tag = tag → j = i) :
    findTagBody tag s = ⟨s, .ok, [BitVec.ofNat 8 i.val, p.state.code]⟩ := by
  simp only [findTagBody, if_neg h0, slotOfTag_of_unique hp ht unique, mapState_of_pair hp]
  rfl

/-! The commands at their block: each answers what its body says. -/

theorem exec_readAccount {s : State} {tag : Byte} {slot : Slot} (hb : s.atBlock (.readAccount tag slot)) (h : s.sound slot) :
    exec (.readAccount tag slot) s =
      .next (s.readied (Instr.readAccount tag slot).frame .ok (readAccountResult (s.account slot))) := by
  have served := serve_atBlock (body := readAccountBody slot) hb
  rwa [readAccountBody_sound h] at served

theorem exec_readFigures {s : State} {tag : Byte} {slot : Slot} (hb : s.atBlock (.readFigures tag slot)) (h : s.sound slot) :
    exec (.readFigures tag slot) s =
      .next (s.readied (Instr.readFigures tag slot).frame .ok (readFiguresResult (s.account slot))) := by
  have served := serve_atBlock (body := readFiguresBody slot) hb
  rwa [readFiguresBody_sound h] at served

theorem exec_clearSticky {s : State} {tag : Byte} {slot : Slot} (hb : s.atBlock (.clearSticky tag slot)) (h : s.sound slot) :
    exec (.clearSticky tag slot) s =
      .next ((s.setAccount slot { s.account slot with clamped := false, overrun := false }).readied
        (Instr.clearSticky tag slot).frame .ok
        [choiceByte (s.account slot).clamped, choiceByte (s.account slot).overrun]) := by
  have served := serve_atBlock (body := clearStickyBody slot) hb
  rwa [clearStickyBody_sound h] at served

/-- FIND TAG leaves the state as it is whenever its body does, which the three cases of `findTagBody` do. -/
theorem exec_findTag {s : State} {tag : Byte} {accountTag : BitVec 32} {st : Status} {result : List Byte}
    (hb : s.atBlock (.findTag tag accountTag)) (body : findTagBody accountTag s = ⟨s, st, result⟩) :
    exec (.findTag tag accountTag) s = .next (s.readied (Instr.findTag tag accountTag).frame st result) := by
  have served := serve_atBlock (body := findTagBody accountTag) hb
  rwa [body] at served

/-! The bytes of the two results, as R28, R29 and R175 lay them out. -/

theorem readAccountResult_eq (a : Account) :
    readAccountResult a =
      [a.state.code, a.kind.code, BitVec.ofNat 8 a.cls] ++ leBytes 4 a.tag.toNat
        ++ leBytes 4 (BitVec.ofInt 32 (max (-2147483648) (min 2147483647 a.balance))).toNat
        ++ [BitVec.ofNat 8 (flagByte [a.wide, a.negative, a.low, a.empty, a.clamped, a.overrun, a.refill.isSome]),
            BitVec.ofNat 8 a.holdList.length, BitVec.ofNat 8 a.bindingCount,
            BitVec.ofNat 8 (refillFields a.refill).1, BitVec.ofNat 8 (refillFields a.refill).2.2,
            BitVec.ofNat 8 a.dependents] := by
  simp [readAccountResult, natField, int32Field, leBytes, Account.windowBalance, Config.windowLow, Config.windowHigh]

theorem readFiguresResult_eq (a : Account) :
    readFiguresResult a =
      leBytes 5 (BitVec.ofInt 40 a.balance).toNat ++ leBytes 4 (BitVec.ofInt 32 a.floor).toNat
        ++ leBytes 4 (BitVec.ofInt 32 a.lowMark).toNat ++ leBytes 5 (BitVec.ofInt 40 a.ceiling).toNat
        ++ leBytes 5 a.heldTotal ++ leBytes 6 a.charged ++ leBytes 6 a.credited ++ leBytes 1 a.lastSweep
        ++ leBytes 4 (refillFields a.refill).2.1 := rfl

/-- Settles O27: each clause is the command's equation at its block, with the result's bytes written out. -/
theorem accountReadsComplete : Obligations.AccountReadsComplete := by
  intro s tag slot a
  refine ⟨fun hb h => ?_, fun hb h => ?_, fun accountTag hb => ⟨?_, ?_, ?_⟩, fun hb h => exec_clearSticky hb h⟩
  · rw [← readAccountResult_eq]
    exact exec_readAccount hb h
  · rw [← readFiguresResult_eq]
    exact exec_readFigures hb h
  · rintro rfl
    exact exec_findTag hb (findTagBody_zero s)
  · exact fun h0 absent => exec_findTag hb (findTagBody_absent h0 absent)
  · exact fun h0 p hp ht unique => exec_findTag hb (findTagBody_held h0 hp ht unique)

end Sys2Proof.Proofs.AccountReads
end

section
/-! The charge calculation of R34: the bias case by case, and the bound by the exact product from which R35's figure follows. -/

namespace Sys2Proof.Proofs.TariffCharge

open Sys2Proof.Machine

/-! The bias (R34 step 2). -/

theorem bias_of_truncate {t : Tariff} (h : t.mode = .truncate) : t.bias = 0 := by
  simp [Tariff.bias, h]

theorem bias_of_nearest {t : Tariff} (h : t.mode = .nearest) (hs : 1 ≤ t.shift) : t.bias = 2 ^ (t.shift - 1) := by
  simp [Tariff.bias, h, hs]

theorem bias_of_shift_zero {t : Tariff} (h : t.shift = 0) : t.bias = 0 := by
  cases hm : t.mode with
  | truncate => exact bias_of_truncate hm
  | nearest => simp [Tariff.bias, hm, h]

/-- The bias is less than one whole unit of the quotient, so it can add at most the fraction that rounding down drops. -/
theorem bias_lt_divisor (t : Tariff) : t.bias < 2 ^ t.shift := by
  cases hm : t.mode with
  | truncate =>
    rw [bias_of_truncate hm]
    exact Nat.two_pow_pos t.shift
  | nearest =>
    obtain hs | hs := Nat.eq_zero_or_pos t.shift
    · rw [bias_of_shift_zero hs]
      exact Nat.two_pow_pos t.shift
    · rw [bias_of_nearest hm hs]
      exact Nat.two_pow_pred_lt_two_pow hs

/-! The charge (R34 steps 3 and 4). -/

theorem charge_of_truncate {t : Tariff} (h : t.mode = .truncate) (q : Nat) : t.charge q = q * t.rate / 2 ^ t.shift := by
  rw [Tariff.charge, bias_of_truncate h, Nat.add_zero]

theorem charge_of_nearest {t : Tariff} (h : t.mode = .nearest) (hs : 1 ≤ t.shift) (q : Nat) :
    t.charge q = (q * t.rate + 2 ^ (t.shift - 1)) / 2 ^ t.shift := by
  rw [Tariff.charge, bias_of_nearest h hs]

theorem charge_of_shift_zero {t : Tariff} (h : t.shift = 0) (q : Nat) : t.charge q = q * t.rate := by
  rw [Tariff.charge, bias_of_shift_zero h, h, Nat.pow_zero, Nat.div_one, Nat.add_zero]

/-- No shift and no rounding lifts a charge above the exact product. -/
theorem charge_le_product (t : Tariff) (q : Nat) : t.charge q ≤ q * t.rate := by
  have sum_lt : q * t.rate + t.bias < (q * t.rate + 1) * 2 ^ t.shift :=
    calc q * t.rate + t.bias
        < q * t.rate + 2 ^ t.shift := Nat.add_lt_add_left (bias_lt_divisor t) _
      _ ≤ q * t.rate * 2 ^ t.shift + 2 ^ t.shift :=
          Nat.add_le_add_right (Nat.le_mul_of_pos_right _ (Nat.two_pow_pos t.shift)) _
      _ = (q * t.rate + 1) * 2 ^ t.shift := (Nat.succ_mul _ _).symm
  exact Nat.le_of_lt_succ ((Nat.div_lt_iff_lt_mul (Nat.two_pow_pos t.shift)).mpr sum_lt)

theorem charge_eq_zero {t : Tariff} {q : Nat} (h : t.rate = 0 ∨ q = 0) : t.charge q = 0 := by
  have product : q * t.rate = 0 := Nat.mul_eq_zero.mpr h.symm
  exact Nat.le_zero.mp (product ▸ charge_le_product t q)

/-- R35's greatest charge is the product of the greatest quantity and the greatest rate, whatever the shift. -/
theorem charge_le_greatest {t : Tariff} {q : Nat} (hq : q ≤ 4294967295) (hr : t.rate ≤ 65535) :
    t.charge q ≤ 281470681677825 :=
  calc t.charge q
      ≤ q * t.rate := charge_le_product t q
    _ ≤ 4294967295 * 65535 := Nat.mul_le_mul hq hr

/-- The greatest quantity through the greatest rate with a shift of 0 reaches R35's bound. -/
theorem charge_reaches_greatest : (⟨65535, 0, .nearest, 0⟩ : Tariff).charge 4294967295 = 281470681677825 :=
  charge_of_shift_zero rfl _

/-- Settles O28: the first three clauses are the charge in each mode and at shift 0; the zero cases and R35's bound follow
from `charge_le_product`. -/
theorem chargeCalculation : Obligations.ChargeCalculation := fun _ q =>
  ⟨fun hm hs => charge_of_nearest hm hs q, fun hm => charge_of_truncate hm q, fun hs => charge_of_shift_zero hs q,
    charge_eq_zero, fun hq hr _ => charge_le_greatest hq hr⟩

end Sys2Proof.Proofs.TariffCharge
end

section
/-! What "EMPTY entered" and "EMPTY left" do to a channel, by its permit state (R94, R95), and when the evaluation that
"EMPTY left" calls for is made (R103). -/

namespace Sys2Proof.Proofs.EmptyEvents

open Sys2Proof.Machine

section Channels

variable {ch : Channel}

/-! A channel whose account has run dry: grace, or a cut (R94, R99). -/

theorem cut_eq (ch : Channel) :
    ch.cut =
      { ch with
        permit := .off, graceRemaining := 0, cutLatch := true,
        notice := { ch.notice with pending := ch.notice.pending ||| Cause.cut } } := rfl

theorem runDry_of_grace_pos (h : 0 < ch.grace) : ch.runDry = { ch with permit := .grace, graceRemaining := ch.grace } :=
  if_pos h

theorem runDry_of_grace_zero (h : ch.grace = 0) : ch.runDry = ch.cut := if_neg (Nat.not_lt.mpr h.le)

/-! A notice is acted upon in RUN, and left to the redrive during the start check (R102, R103). -/

theorem notify_true (ch : Channel) : ch.notify true = ch.evaluate := if_pos rfl

theorem notify_false (ch : Channel) : ch.notify false = ch := if_neg Bool.false_ne_true

/-! "EMPTY entered", by permit state (R94). -/

theorem emptyEntered_of_on (h : ch.permit = .on) : ch.emptyEntered = ({ ch with emptyMark := true } : Channel).runDry := by
  simp only [Channel.emptyEntered, h]

theorem emptyEntered_of_not_on (h : ch.permit = .grace ∨ ch.permit = .off) :
    ch.emptyEntered = { ch with emptyMark := true } := by
  rcases h with h | h <;> simp only [Channel.emptyEntered, h]

/-! "EMPTY left", by permit state; only an OFF permit depends on whether notices are acted upon (R95, R103). -/

theorem emptyLeft_of_grace (live : Bool) (h : ch.permit = .grace) :
    ch.emptyLeft live = { ch with emptyMark := false, permit := .on, graceRemaining := 0 } := by
  simp only [Channel.emptyLeft, h]

theorem emptyLeft_of_on (live : Bool) (h : ch.permit = .on) : ch.emptyLeft live = { ch with emptyMark := false } := by
  simp only [Channel.emptyLeft, h]

theorem emptyLeft_of_off (live : Bool) (h : ch.permit = .off) :
    ch.emptyLeft live =
      ({ ch with emptyMark := false, cutLatch := ch.cutLatch && !ch.autoRestore } : Channel).notify live := by
  simp only [Channel.emptyLeft, h]

theorem emptyLeft_of_off_of_autoRestore (live : Bool) (h : ch.permit = .off) (ha : ch.autoRestore = true) :
    ch.emptyLeft live = ({ ch with emptyMark := false, cutLatch := false } : Channel).notify live := by
  rw [emptyLeft_of_off live h, ha, Bool.not_true, Bool.and_false]

theorem emptyLeft_of_off_of_not_autoRestore (live : Bool) (h : ch.permit = .off) (ha : ch.autoRestore = false) :
    ch.emptyLeft live = ({ ch with emptyMark := false } : Channel).notify live := by
  rw [emptyLeft_of_off live h, ha, Bool.not_false, Bool.and_true]

end Channels

/-- Settles O43: each clause is the event's equation at the permit state it names; the start check's clauses differ from
RUN's in `notify` alone. -/
theorem emptyEvents : Obligations.EmptyEvents := by
  intro ch marked cleared
  refine ⟨fun hp hg => ?grace, fun hp hg => ?cut, emptyEntered_of_not_on, emptyLeft_of_grace true, emptyLeft_of_on true,
    fun hp ha => ?restored, fun hp ha => ?latched, emptyLeft_of_grace false, emptyLeft_of_on false,
    fun hp ha => ?restoredStarting, fun hp ha => ?latchedStarting⟩
  case grace =>
    rw [emptyEntered_of_on hp]
    exact runDry_of_grace_pos (ch := marked) hg
  case cut =>
    rw [emptyEntered_of_on hp, runDry_of_grace_zero (ch := marked) hg, cut_eq]
  case restored => rw [emptyLeft_of_off_of_autoRestore true hp ha, notify_true]
  case latched => rw [emptyLeft_of_off_of_not_autoRestore true hp ha, notify_true]
  case restoredStarting => rw [emptyLeft_of_off_of_autoRestore false hp ha, notify_false]
  case latchedStarting => rw [emptyLeft_of_off_of_not_autoRestore false hp ha, notify_false]

end Sys2Proof.Proofs.EmptyEvents
end

section
/-! The three commands of the Sweep Engine at their block: what START SWEEP takes for an argument, and what each command answers
and leaves (R116, R122, R125). -/

namespace Sys2Proof.Proofs.SweepCommands

open Sys2Proof.Machine Sys2Proof.Laws

/-! The direction and the class selector that R171 lists, and the bytes that name none. -/

theorem dirArg_of_listed {b : Byte} (h : b = 0 ∨ b = 1) : dirArg b = some (if b = 0 then .debit else .credit) := by
  rcases h with rfl | rfl <;> rfl

theorem dirArg_of_unlisted {b : Byte} (h0 : b ≠ 0) (h1 : b ≠ 1) : dirArg b = none := by
  unfold dirArg
  rw [if_neg h0, if_neg h1]

theorem selectorArg_all : selectorArg 0xFF = some .all := rfl

theorem selectorArg_class (n : Fin 16) : selectorArg (BitVec.ofNat 8 n.val) = some (.cls n) := by
  revert n
  decide

theorem selectorArg_of_unlisted {b : Byte} (h : 15 < b.toNat) (hall : b ≠ 0xFF) : selectorArg b = none := by
  unfold selectorArg
  rw [if_neg hall, if_neg (Nat.not_le.mpr h)]

/-! The body of START SWEEP: BUSY first, then each argument, then the new sweep and the old one's figures (R116). -/

section StartSweep

variable {s : State} {number dir selector start : Byte} {amount : BitVec 32}

theorem startSweepBody_running (h : s.sweep.state = .running) :
    startSweepBody number dir amount selector start s = refuse s .busy := if_pos h

theorem not_running_of_idle (h : s.sweep.state = .idle) : s.sweep.state ≠ .running := by
  simp [h]

theorem startSweepBody_bad_figure (hidle : s.sweep.state = .idle)
    (h : number = 0 ∨ amount.toNat = 0 ∨ Config.maxAmount < amount.toNat) :
    startSweepBody number dir amount selector start s = refuse s .badArgument := by
  have bad : number.toNat = 0 ∨ amount.toNat = 0 ∨ Config.maxAmount < amount.toNat :=
    h.imp_left (congrArg BitVec.toNat)
  unfold startSweepBody
  rw [if_neg (not_running_of_idle hidle), if_pos bad]

/-- A direction or a selector that names nothing is refused, whatever the number and the amount are. -/
theorem startSweepBody_unlisted (hidle : s.sweep.state = .idle) (h : dirArg dir = none ∨ selectorArg selector = none) :
    startSweepBody number dir amount selector start s = refuse s .badArgument := by
  unfold startSweepBody
  rw [if_neg (not_running_of_idle hidle)]
  split_ifs
  · rfl
  · rcases h with h | h
    · rw [h]
    · cases hd : dirArg dir with
      | none => rfl
      | some d => rw [h]

theorem startSweepBody_accepted {sel : Selector} (hidle : s.sweep.state = .idle) (hn : number ≠ 0) (hd : dir = 0 ∨ dir = 1)
    (hlow : 1 ≤ amount.toNat) (hhigh : amount.toNat ≤ Config.maxAmount) (hs : selectorArg selector = some sel) :
    startSweepBody number dir amount selector start s =
      ⟨{ s with sweep := ⟨.running, number.toNat, if dir = 0 then .debit else .credit, amount.toNat, sel, start.toNat, 0,
          .none, false⟩ }, .ok,
        [BitVec.ofNat 8 s.sweep.number, s.sweep.ending.code] ++ leBytes 2 s.sweep.cursor ++ leBytes 2 s.sweep.changed⟩ := by
  have good : ¬(number.toNat = 0 ∨ amount.toNat = 0 ∨ Config.maxAmount < amount.toNat) := by
    rintro (h | h | h)
    · exact hn (BitVec.eq_of_toNat_eq h)
    · omega
    · exact Nat.not_lt.mpr hhigh h
  unfold startSweepBody
  rw [if_neg (not_running_of_idle hidle), if_neg good, dirArg_of_listed hd, hs]
  rfl

end StartSweep

/-! The bodies of STOP SWEEP and READ SWEEP (R122, R125). -/

theorem stopSweepBody_running {s : State} (h : s.sweep.state = .running) :
    stopSweepBody s =
      ⟨{ s with
          sweep := { s.sweep with state := .idle, ending := .stopped },
          device := { s.device with pending := s.device.pending ||| Cause.sweepStopped } }, .ok,
        [BitVec.ofNat 8 s.sweep.number] ++ leBytes 2 s.sweep.cursor ++ leBytes 2 s.sweep.changed⟩ := if_pos h

theorem stopSweepBody_idle {s : State} (h : s.sweep.state = .idle) : stopSweepBody s = refuse s .wrongState :=
  if_neg (not_running_of_idle h)

theorem readSweepResult_eq (w : Sweep) :
    readSweepResult w =
      [w.state.code, BitVec.ofNat 8 w.number, w.dir.code] ++ leBytes 4 w.amount ++ [w.selector.code] ++ leBytes 2 w.cursor
        ++ leBytes 2 w.changed ++ [w.ending.code, if w.stopOwed then 0x01 else 0x00] := rfl

/-! The commands at their block: each readies the answer of its body. -/

theorem exec_startSweep {s : State} {tag number dir selector start : Byte} {amount : BitVec 32} {r : Reply}
    (hb : s.atBlock (.startSweep tag number dir amount selector start))
    (body : startSweepBody number dir amount selector start s = r) :
    exec (.startSweep tag number dir amount selector start) s =
      .next (r.state.readied (Instr.startSweep tag number dir amount selector start).frame r.status r.result) := by
  subst body
  exact serve_atBlock hb

theorem exec_stopSweep {s : State} {tag : Byte} {r : Reply} (hb : s.atBlock (.stopSweep tag)) (body : stopSweepBody s = r) :
    exec (.stopSweep tag) s = .next (r.state.readied (Instr.stopSweep tag).frame r.status r.result) := by
  subst body
  exact serve_atBlock hb

theorem exec_readSweep {s : State} {tag : Byte} (hb : s.atBlock (.readSweep tag)) :
    exec (.readSweep tag) s = .next (s.readied (Instr.readSweep tag).frame .ok (readSweepResult s.sweep)) :=
  serve_atBlock (body := readSweepBody) hb

/-- Settles O49: each clause is a command's equation at its block, with its body's answer in the case the clause names. -/
theorem sweepCommandsComplete : Obligations.SweepCommandsComplete := by
  intro s tag number dir selector start amount c w
  refine ⟨fun hb hidle hn hd hlow hhigh => ⟨fun n hsel => ?cls, fun hsel => ?all⟩,
    fun hb h => exec_startSweep hb (startSweepBody_running h), fun hb hidle bad => ?refused,
    fun hb h => exec_stopSweep hb (stopSweepBody_running h), fun hb h => exec_stopSweep hb (stopSweepBody_idle h),
    fun hb => ?read⟩
  case cls =>
    exact exec_startSweep hb (startSweepBody_accepted hidle hn hd hlow hhigh (hsel ▸ selectorArg_class n))
  case all =>
    exact exec_startSweep hb (startSweepBody_accepted hidle hn hd hlow hhigh (hsel ▸ selectorArg_all))
  case refused =>
    refine exec_startSweep (r := refuse s .badArgument) hb ?_
    rcases bad with number_zero | ⟨dir_ne_zero, dir_ne_one⟩ | amount_zero | amount_above | ⟨class_above, not_all⟩
    · exact startSweepBody_bad_figure hidle (.inl number_zero)
    · exact startSweepBody_unlisted hidle (.inl (dirArg_of_unlisted dir_ne_zero dir_ne_one))
    · exact startSweepBody_bad_figure hidle (.inr (.inl amount_zero))
    · exact startSweepBody_bad_figure hidle (.inr (.inr amount_above))
    · exact startSweepBody_unlisted hidle (.inr (selectorArg_of_unlisted class_above not_all))
  case read =>
    rw [← readSweepResult_eq]
    exact exec_readSweep hb

end Sys2Proof.Proofs.SweepCommands
end

section
/-! The arbitration among the notice sources: when a source requests, which requesting source wins, and when ATTN is asserted
(R129 to R131, R133). -/

namespace Sys2Proof.Proofs.Arbitration

open Sys2Proof.Machine

/-! When a source requests (R129). -/

theorem asks_iff {n : NoticeRec} : n.asks = true ↔ n.enable = true ∧ 1 ≤ n.level.val ∧ n.pending &&& n.mask ≠ 0 := by
  simp [NoticeRec.asks, and_assoc]

theorem canRequest_iff {l : LifeState} : l.canRequest = true ↔ l = .opened ∨ l = .frozen ∨ l = .retired := by
  simp [LifeState.canRequest, or_assoc]

theorem requesting_fault (s : State) : s.requesting .fault = false := Bool.and_false _

theorem requesting_of_globalEnable_off {s : State} (h : s.globalEnable = false) (src : Source) : s.requesting src = false := by
  simp [State.requesting, h]

/-- An account source also needs its slot in OPEN, FROZEN or RETIRED; the other sources need nothing beyond their record. -/
theorem requesting_iff {s : State} {src : Source} (h : src ≠ .fault) :
    s.requesting src = true ↔ s.globalEnable = true ∧ (s.noticeOf src).asks = true ∧
      ∀ i, src = .account i → (s.mapState i).canRequest = true := by
  cases src with
  | device => simp [State.requesting, State.noticeOf]
  | channel c => simp [State.requesting, State.noticeOf]
  | account i => simp [State.requesting, State.noticeOf, and_comm]
  | fault => exact absurd rfl h

/-! The order of the arbitration (R130): level, then group, then the lower number. -/

/-- `w` stands before `src` in the order of R130. -/
def Outranks (s : State) (w src : Source) : Prop :=
  let n := s.noticeOf src
  let m := s.noticeOf w
  n.level < m.level ∨ (n.level = m.level ∧ n.group < m.group) ∨
    (n.level = m.level ∧ n.group = m.group ∧ w.number < src.number)

section Order

variable {s : State} {a b c : Source}

theorem Outranks.trans (h : Outranks s a b) (k : Outranks s b c) : Outranks s a c := by
  unfold Outranks at *
  omega

theorem Outranks.asymm (h : Outranks s a b) : ¬Outranks s b a := by
  unfold Outranks at *
  omega

theorem outranks_of_beats (h : (s.noticeOf a).beats (s.noticeOf b) = true) : Outranks s a b := by
  simp only [NoticeRec.beats, Bool.or_eq_true, Bool.and_eq_true, decide_eq_true_eq] at h
  unfold Outranks
  omega

/-- A source that does not beat one of lower number stands behind it: on equal level and group the lower number wins. -/
theorem outranks_of_not_beats (h : (s.noticeOf b).beats (s.noticeOf a) = false) (lower : a.number < b.number) :
    Outranks s a b := by
  simp only [NoticeRec.beats, Bool.or_eq_false_iff, Bool.and_eq_false_iff, decide_eq_false_iff_not] at h
  unfold Outranks
  omega

end Order

/-! The contest over the sources by rising number finds the requesting source that outranks the others. -/

/-- What a contest among the sources of `l` should have found. -/
def Best (s : State) (l : List Source) : Option Source → Prop
  | none => ∀ src ∈ l, s.requesting src = false
  | some w => w ∈ l ∧ s.requesting w = true ∧ ∀ src ∈ l, s.requesting src = true → src ≠ w → Outranks s w src

section Contest

variable {s : State} {l : List Source} {best : Option Source} {x b : Source}

theorem contest_idle (h : s.requesting x = false) : s.contest best x = best := by
  simp [State.contest, h]

theorem contest_first (h : s.requesting x = true) : s.contest none x = some x := by
  simp [State.contest, h]

theorem contest_beats (h : s.requesting x = true) (hb : (s.noticeOf x).beats (s.noticeOf b) = true) :
    s.contest (some b) x = some x := by
  simp [State.contest, h, hb]

theorem contest_not_beats (hb : (s.noticeOf x).beats (s.noticeOf b) = false) : s.contest (some b) x = some b := by
  simp [State.contest, hb]

theorem Best.snoc_idle (h : Best s l best) (hx : s.requesting x = false) : Best s (l ++ [x]) best := by
  cases best with
  | none =>
    intro src hsrc
    rcases List.mem_append.mp hsrc with old | new
    · exact h src old
    · rwa [List.mem_singleton.mp new]
  | some w =>
    obtain ⟨mem, req, outranks⟩ := h
    refine ⟨List.mem_append_left _ mem, req, fun src hsrc hreq hne => ?_⟩
    rcases List.mem_append.mp hsrc with old | new
    · exact outranks src old hreq hne
    · rw [List.mem_singleton.mp new] at hreq
      exact absurd hreq (ne_true_of_eq_false hx)

/-- A requesting source that stands before every requesting source so far is the new best. -/
theorem best_snoc_new (hx : s.requesting x = true) (outranks : ∀ src ∈ l, s.requesting src = true → Outranks s x src) :
    Best s (l ++ [x]) (some x) := by
  refine ⟨List.mem_append_right _ (List.mem_singleton_self x), hx, fun src hsrc hreq hne => ?_⟩
  rcases List.mem_append.mp hsrc with old | new
  · exact outranks src old hreq
  · exact absurd (List.mem_singleton.mp new) hne

theorem Best.snoc_behind (h : Best s l (some b)) (hx : Outranks s b x) : Best s (l ++ [x]) (some b) := by
  obtain ⟨mem, req, outranks⟩ := h
  refine ⟨List.mem_append_left _ mem, req, fun src hsrc hreq hne => ?_⟩
  rcases List.mem_append.mp hsrc with old | new
  · exact outranks src old hreq hne
  · rwa [List.mem_singleton.mp new]

/-- One contest keeps the best, when the new source's number is above all the numbers so far. -/
theorem Best.contest (h : Best s l best) (above : ∀ src ∈ l, src.number < x.number) :
    Best s (l ++ [x]) (s.contest best x) := by
  cases hx : s.requesting x with
  | false =>
    rw [contest_idle hx]
    exact h.snoc_idle hx
  | true =>
    cases best with
    | none =>
      rw [contest_first hx]
      exact best_snoc_new hx fun src hsrc hreq => absurd hreq (ne_true_of_eq_false (h src hsrc))
    | some b =>
      have ⟨mem, _, outranks⟩ := h
      cases hb : (s.noticeOf x).beats (s.noticeOf b) with
      | false =>
        rw [contest_not_beats hb]
        exact h.snoc_behind (outranks_of_not_beats hb (above b mem))
      | true =>
        rw [contest_beats hx hb]
        refine best_snoc_new hx fun src hsrc hreq => ?_
        obtain rfl | hne := eq_or_ne src b
        · exact outranks_of_beats hb
        · exact (outranks_of_beats hb).trans (outranks src hsrc hreq hne)

theorem best_foldl (s : State) (l : List Source) (rising : l.Pairwise (fun a b => a.number < b.number)) :
    Best s l (l.foldl s.contest none) := by
  induction l using List.reverseRecOn with
  | nil => exact fun src hsrc => absurd hsrc List.not_mem_nil
  | append_singleton l x ih =>
    obtain ⟨init, -, last⟩ := List.pairwise_append.mp rising
    rw [List.foldl_concat]
    exact (ih init).contest fun src hsrc => last src hsrc x (List.mem_singleton_self x)

end Contest

/-! The sources but for the fault source, by rising number (R126). -/

theorem mem_allSources {src : Source} : src ∈ allSources ↔ src ≠ .fault := by
  cases src <;> simp [allSources, allChannels, allSlots]

theorem allSources_rising : allSources.Pairwise (fun a b => a.number < b.number) := by
  have channels : (allChannels.map Source.channel).Pairwise (fun a b => a.number < b.number) :=
    List.pairwise_map.mpr ((List.pairwise_lt_finRange 8).imp fun h => Nat.add_lt_add_left h _)
  have accounts : (allSlots.map Source.account).Pairwise (fun a b => a.number < b.number) :=
    List.pairwise_map.mpr ((List.pairwise_lt_finRange 256).imp fun h => Nat.add_lt_add_left h _)
  refine List.pairwise_cons.mpr ⟨fun src hsrc => ?first,
    List.pairwise_append.mpr ⟨channels, accounts, fun a ha b hb => ?across⟩⟩
  case first =>
    rcases List.mem_append.mp hsrc with hsrc | hsrc
    · obtain ⟨c, -, rfl⟩ := List.mem_map.mp hsrc
      simp only [Source.number]
      omega
    · obtain ⟨i, -, rfl⟩ := List.mem_map.mp hsrc
      simp only [Source.number]
      omega
  case across =>
    obtain ⟨c, -, rfl⟩ := List.mem_map.mp ha
    obtain ⟨i, -, rfl⟩ := List.mem_map.mp hb
    simp only [Source.number]
    omega

/-! The winner (R130). -/

/-- With the global enable off no source requests, so the winner is the best of all sources in either case. -/
theorem best_winner (s : State) : Best s allSources s.winner := by
  cases h : s.globalEnable with
  | false =>
    rw [State.winner, h, if_neg Bool.false_ne_true]
    exact fun src _ => requesting_of_globalEnable_off h src
  | true =>
    rw [State.winner, if_pos h]
    exact best_foldl s allSources allSources_rising

theorem mem_allSources_of_requesting {s : State} {src : Source} (h : s.requesting src = true) : src ∈ allSources := by
  refine mem_allSources.mpr ?_
  rintro rfl
  exact ne_true_of_eq_false (requesting_fault s) h

theorem requesting_eq_false_of_winner_eq_none {s : State} (h : s.winner = none) (src : Source) : s.requesting src = false := by
  have best := best_winner s
  rw [h] at best
  exact eq_false_of_ne_true fun hreq => ne_true_of_eq_false (best src (mem_allSources_of_requesting hreq)) hreq

theorem winner_outranks {s : State} {w : Source} (h : s.winner = some w) :
    s.requesting w = true ∧ ∀ src, s.requesting src = true → src ≠ w → Outranks s w src := by
  have best := best_winner s
  rw [h] at best
  obtain ⟨-, req, outranks⟩ := best
  exact ⟨req, fun src hreq => outranks src (mem_allSources_of_requesting hreq) hreq⟩

theorem winner_eq_none_iff {s : State} : s.winner = none ↔ ∀ src, s.requesting src = false := by
  refine ⟨requesting_eq_false_of_winner_eq_none, fun idle => Option.eq_none_iff_forall_ne_some.mpr fun w hw => ?_⟩
  exact ne_true_of_eq_false (idle w) (winner_outranks hw).1

/-- No two sources can each outrank the other, so the requesting source that outranks the others is the winner. -/
theorem winner_eq_some_iff {s : State} {w : Source} :
    s.winner = some w ↔ s.requesting w = true ∧ ∀ src, s.requesting src = true → src ≠ w → Outranks s w src := by
  refine ⟨winner_outranks, fun ⟨req, outranks⟩ => ?_⟩
  cases hv : s.winner with
  | none => exact absurd req (ne_true_of_eq_false (requesting_eq_false_of_winner_eq_none hv w))
  | some v =>
    obtain ⟨vreq, voutranks⟩ := winner_outranks hv
    by_contra hne
    have ne : v ≠ w := fun h => hne (congrArg some h)
    exact (outranks v vreq ne).asymm (voutranks w req ne.symm)

/-! The current level and the attention line (R131, R133). -/

theorem currentLevel_nil {s : State} (h : s.stack = []) : s.currentLevel = 0 := by
  simp only [State.currentLevel, h]

theorem currentLevel_cons {s : State} {e : StackEntry} {rest : List StackEntry} (h : s.stack = e :: rest) :
    s.currentLevel = e.level := by
  simp only [State.currentLevel, h]

theorem attn_iff {s : State} :
    s.attn = true ↔ s.phase = .run ∧
      ((s.faults.pending ≠ 0 ∧ s.currentLevel < Config.faultLevel) ∨
        ∃ w, s.winner = some w ∧ s.currentLevel < (s.noticeOf w).level.val) := by
  cases hw : s.winner with
  | none => simp [State.attn, hw]
  | some w => simp [State.attn, hw]

/-- Settles O53: the winner is what the fold over the sources by rising number finds (`best_foldl`), the one source that
outranks every other that requests. -/
theorem winnerAndAttention : Obligations.WinnerAndAttention := fun s =>
  ⟨winner_eq_none_iff, requesting_fault s,
    fun src h => by simp only [requesting_iff h, asks_iff, canRequest_iff, and_assoc],
    currentLevel_nil, fun _ _ => currentLevel_cons, fun _ => winner_eq_some_iff, attn_iff⟩

end Sys2Proof.Proofs.Arbitration
end

section
/-! The commands that serve notices at their block: TAKE NOTICE by what stands to be handed over, END NOTICE and READ STACK by
the service stack (R135, R136, R138, R144). -/

namespace Sys2Proof.Proofs.NoticeService

open Sys2Proof.Machine Sys2Proof.Laws

/-- A command at its block readies the answer of its body. -/
theorem serve_answer {c : Instr} {body : State → Reply} {s : State} {r : Reply} (hb : s.atBlock c) (answer : body s = r) :
    serve c.frame body s = .next (r.state.readied c.frame r.status r.result) := by
  subst answer
  exact serve_atBlock hb

/-! What is handed over (R135, R136). -/

theorem handOverFaults_eq (s : State) :
    handOverFaults s =
      ⟨{ s with faults := ⟨0, 0⟩, stack := ⟨16, .fault⟩ :: s.stack }, .ok,
        [0xFF, 0xFF, 16] ++ leBytes 2 s.faults.pending.toNat
          ++ [BitVec.ofNat 8 s.faults.damagedCount, BitVec.ofNat 8 (s.stack.length + 1)]⟩ := rfl

/-- To remove the taken causes is to remove the causes of the mask. -/
theorem and_not_and_self (pending mask : BitVec 16) : pending &&& ~~~(pending &&& mask) = pending &&& ~~~mask := by
  ext i
  cases h : pending[i] <;> simp [h]

theorem handOverSource_eq (src : Source) (s : State) :
    handOverSource src s =
      ⟨{ s.setNoticeOf src
            { s.noticeOf src with pending := (s.noticeOf src).pending &&& ~~~(s.noticeOf src).mask } with
          stack := ⟨(s.noticeOf src).level.val, src⟩ :: s.stack }, .ok,
        leBytes 2 src.number ++ [BitVec.ofNat 8 (s.noticeOf src).level.val]
          ++ leBytes 2 ((s.noticeOf src).pending &&& (s.noticeOf src).mask).toNat
          ++ [0x00, BitVec.ofNat 8 (s.stack.length + 1)]⟩ := by
  unfold handOverSource
  simp only [and_not_and_self]
  rfl

/-! TAKE NOTICE by case: the fault source first, then a winner above the current level, else nothing (R135, R136). -/

section TakeNotice

variable {s : State} {w : Source}

theorem takeNoticeBody_fault (pending : s.faults.pending ≠ 0) (below : s.currentLevel < 16) :
    takeNoticeBody s = handOverFaults s := if_pos ⟨pending, below⟩

theorem no_fault_due (h : s.faults.pending = 0 ∨ 16 ≤ s.currentLevel) :
    ¬(s.faults.pending ≠ 0 ∧ s.currentLevel < Config.faultLevel) := by
  rintro ⟨pending, below⟩
  exact h.elim pending (Nat.not_le.mpr below)

theorem takeNoticeBody_nothing (hf : s.faults.pending = 0 ∨ 16 ≤ s.currentLevel)
    (low : ∀ w, s.winner = some w → (s.noticeOf w).level.val ≤ s.currentLevel) :
    takeNoticeBody s = refuse s .nothingPending := by
  rw [takeNoticeBody, if_neg (no_fault_due hf)]
  cases hw : s.winner with
  | none => rfl
  | some w => exact if_pos (low w hw)

/-- The fault source is no winner above a level, for it has no level of its own. -/
theorem takeNoticeBody_source (hf : s.faults.pending = 0 ∨ 16 ≤ s.currentLevel) (hw : s.winner = some w)
    (above : s.currentLevel < (s.noticeOf w).level.val) (sound : ∀ i, w = .account i → s.sound i) :
    takeNoticeBody s = handOverSource w s := by
  rw [takeNoticeBody, if_neg (no_fault_due hf), hw]
  dsimp only
  rw [if_neg (Nat.not_le.mpr above)]
  cases w with
  | device => rfl
  | channel c => rfl
  | account i =>
    obtain ⟨not_free, not_damaged, agrees⟩ := sound i rfl
    simp only [readRecord_sound not_free not_damaged agrees]
  | fault => exact absurd above (Nat.not_lt_zero _)

theorem takeNoticeBody_mismatched {i : Slot} (hf : s.faults.pending = 0 ∨ 16 ≤ s.currentLevel)
    (hw : s.winner = some (.account i)) (above : s.currentLevel < (s.noticeOf (.account i)).level.val)
    (mismatch : s.mismatched i) : takeNoticeBody s = handOverFaults (s.damage i) := by
  obtain ⟨not_free, not_damaged, differs⟩ := mismatch
  rw [takeNoticeBody, if_neg (no_fault_due hf), hw]
  dsimp only
  rw [if_neg (Nat.not_le.mpr above)]
  simp only [readRecord_mismatched not_free not_damaged differs]

end TakeNotice

/-! END NOTICE and READ STACK (R138, R144). -/

theorem endNoticeBody_cons {s : State} {e : StackEntry} {rest : List StackEntry} (h : s.stack = e :: rest) :
    endNoticeBody s =
      ⟨{ s with stack := rest }, .ok,
        [BitVec.ofNat 8 e.level] ++ leBytes 2 e.source.number ++ [BitVec.ofNat 8 rest.length]⟩ := by
  simp only [endNoticeBody, h]
  rfl

theorem endNoticeBody_nil {s : State} (h : s.stack = []) : endNoticeBody s = refuse s .stackEmpty := by
  simp only [endNoticeBody, h]

theorem readStackResult_eq (s : State) :
    readStackResult s =
      [BitVec.ofNat 8 s.stack.length]
        ++ (s.stack.reverse.map (fun e => [BitVec.ofNat 8 e.level] ++ leBytes 2 e.source.number)).flatten
        ++ [if s.globalEnable then 0x01 else 0x00, if s.faults.pending ≠ 0 then 0x01 else 0x00] := by
  simp [readStackResult, natField, leBytes, choiceByte]

/-- Settles O52: each clause is a command's answer at its block, with its body's case and its bytes written out. -/
theorem noticeServiceCompletes : Obligations.NoticeServiceCompletes := by
  intro s tag take depth faulted
  refine ⟨fun hb => ⟨fun pending below => ?fault, fun hf => ⟨fun w hw above => ?winner, fun low => ?nothing⟩⟩,
    fun hb => ⟨fun e rest hs => ?pop, fun hs => ?empty⟩, fun hb => ?stack⟩
  case fault => exact serve_answer hb ((takeNoticeBody_fault pending below).trans (handOverFaults_eq s))
  case winner =>
    refine ⟨fun sound => ?source, fun i hi mismatch => ?mismatched⟩
    case source => exact serve_answer hb ((takeNoticeBody_source hf hw above sound).trans (handOverSource_eq w s))
    case mismatched =>
      subst hi
      exact serve_answer hb ((takeNoticeBody_mismatched hf hw above mismatch).trans (handOverFaults_eq (s.damage i)))
  case nothing => exact serve_answer hb (takeNoticeBody_nothing hf low)
  case pop => exact serve_answer hb (endNoticeBody_cons hs)
  case empty => exact serve_answer hb (endNoticeBody_nil hs)
  case stack =>
    rw [← readStackResult_eq]
    exact serve_answer (body := readStackBody) hb rfl

end Sys2Proof.Proofs.NoticeService
end

section
/-! What the checks and the arguments of a command come to, case by case: the read of a record (R146), the checks before a
command's own (R18, R71), and the arguments of R171. -/

namespace Sys2Proof.Proofs.Checks

open Sys2Proof.Machine Sys2Proof.Laws

/-! The read of a record. -/

section Read

variable {s : State} {i : Slot} {k : Account → Reply}

theorem lookup_cases (s : State) (i : Slot) :
    s.mapState i = .free ∨ s.mapState i = .damaged ∨ s.sound i ∨ s.mismatched i := by
  unfold State.sound State.mismatched
  tauto

theorem readRecord_of_sound (h : s.sound i) : s.readRecord i = (s, .sound (s.account i)) := readRecord_sound h.1 h.2.1 h.2.2

theorem readRecord_of_mismatched (h : s.mismatched i) : s.readRecord i = (s.damage i, .damaged) :=
  readRecord_mismatched h.1 h.2.1 h.2.2

theorem withRecord_free (h : s.mapState i = .free) : withRecord i s k = refuse s .notFound := by
  rw [withRecord, readRecord_free h]

theorem withRecord_damaged (h : s.mapState i = .damaged) : withRecord i s k = refuse s .damaged := by
  rw [withRecord, readRecord_damaged h]

theorem withRecord_mismatched (h : s.mismatched i) : withRecord i s k = refuse (s.damage i) .damaged := by
  rw [withRecord, readRecord_of_mismatched h]

theorem live_iff {l : LifeState} : l.live = true ↔ l = .opened ∨ l = .frozen := by
  simp [LifeState.live]

/-- A sound record in OPEN or FROZEN reaches the own checks of a command that needs a live account. -/
theorem withLive_of (h : s.sound i) (hl : (s.account i).state = .opened ∨ (s.account i).state = .frozen) :
    withLive i s k = k (s.account i) := withLive_sound h (live_iff.mpr hl)

theorem withLive_retired (h : s.sound i) (hr : (s.account i).state = .retired) : withLive i s k = refuse s .wrongState := by
  unfold withLive
  rw [withRecord_sound h, if_neg]
  simp [hr, LifeState.live]

end Read

/-! Holds and channels. -/

section Named

variable {s : State} {w : BitVec 16} {b : Byte} {k : Chan → Reply} {kh : HoldIdx → Account → Reply}

theorem withHold_gone (h : s.honoured (Handle.ofWord w) = false) : withHold w s kh = refuse s .holdGone := by
  unfold withHold
  rw [if_neg (ne_true_of_eq_false h)]

theorem withHold_mismatched (hh : s.honoured (Handle.ofWord w) = true)
    (h : s.mismatched (s.hold (Handle.ofWord w).idx).slot) :
    withHold w s kh = refuse (s.damage (s.hold (Handle.ofWord w).idx).slot) .damaged := by
  unfold withHold
  rw [if_pos hh, withRecord_mismatched h]

theorem channelArg_ofNat (d : Chan) : channelArg (BitVec.ofNat 8 d.val) = some d := by
  revert d
  decide

theorem channelArg_above (h : 7 < b.toNat) : channelArg b = none := if_neg (Nat.not_le.mpr h)

/-- A channel number of at most 7 is the number of a channel. -/
theorem exists_chan (h : b.toNat ≤ 7) : ∃ d : Chan, b = BitVec.ofNat 8 d.val :=
  ⟨⟨b.toNat, by omega⟩, by simp⟩

theorem withChannel_above (h : 7 < b.toNat) : withChannel b s k = refuse s .badArgument := by
  unfold withChannel
  rw [channelArg_above h]

theorem withChannel_ofNat (d : Chan) : withChannel (BitVec.ofNat 8 d.val) s k = k d := withChannel_of (channelArg_ofNat d)

theorem bound_iff {ch : Channel} : ch.bound = true ↔ ch.state ≠ .unbound := by simp [Channel.bound]

theorem boundTo_iff {i : Slot} {ch : Channel} : ch.boundTo i = true ↔ ch.state ≠ .unbound ∧ ch.slot = i := by
  simp [Channel.boundTo, Channel.bound]

theorem withBound_above (h : 7 < b.toNat) : withBound b s k = refuse s .badArgument := withChannel_above h

theorem withBound_ofNat {d : Chan} (h : (s.channel d).state ≠ .unbound) : withBound (BitVec.ofNat 8 d.val) s k = k d :=
  withBound_of (channelArg_ofNat d) (bound_iff.mpr h)

theorem withBound_unbound {d : Chan} (h : (s.channel d).state = .unbound) :
    withBound (BitVec.ofNat 8 d.val) s k = refuse s .wrongState := by
  unfold withBound
  rw [withChannel_ofNat, if_neg fun hb => bound_iff.mp hb h]

end Named

/-! Arguments (R171). -/

section Arguments

variable {b : Byte}

theorem tariffArg_ofNat (t : TariffIdx) : tariffArg (BitVec.ofNat 8 t.val) = some t := by
  revert t
  decide

theorem tariffArg_above (h : 15 < b.toNat) : tariffArg b = none := if_neg (Nat.not_le.mpr h)

theorem exists_tariff (h : b.toNat ≤ 15) : ∃ t : TariffIdx, b = BitVec.ofNat 8 t.val :=
  ⟨⟨b.toNat, by omega⟩, by simp⟩

theorem choiceArg_of_listed (h : b = 0 ∨ b = 1) : choiceArg b = some (decide (b = 1)) := by
  rcases h with rfl | rfl <;> rfl

theorem choiceArg_of_unlisted (h : b ≠ 0 ∧ b ≠ 1) : choiceArg b = none := by
  unfold choiceArg
  rw [if_neg h.1, if_neg h.2]

theorem kindArg_of_listed (h : b = 0 ∨ b = 1) : kindArg b = some (if b = 0 then .consumer else .pool) := by
  rcases h with rfl | rfl <;> rfl

theorem kindArg_of_unlisted (h : b ≠ 0 ∧ b ≠ 1) : kindArg b = none := by
  unfold kindArg
  rw [if_neg h.1, if_neg h.2]

theorem roundingArg_of_listed (h : b = 0 ∨ b = 1) : roundingArg b = some (if b = 0 then .truncate else .nearest) := by
  rcases h with rfl | rfl <;> rfl

theorem roundingArg_of_unlisted (h : b ≠ 0 ∧ b ≠ 1) : roundingArg b = none := by
  unfold roundingArg
  rw [if_neg h.1, if_neg h.2]

/-- The limits of R6; the ranges of R1 are those of the arguments' widths. -/
theorem limitsValid_iff {floor lowMark : BitVec 32} {ceiling : BitVec 40} :
    limitsValid floor.toInt lowMark.toInt ceiling.toInt = true ↔
      floor.toInt ≤ 0 ∧ floor.toInt ≤ lowMark.toInt ∧ lowMark.toInt < ceiling.toInt ∧ 1 ≤ ceiling.toInt := by
  have floor_low := floor.le_toInt
  have low_high := lowMark.toInt_lt
  have ceiling_high := ceiling.toInt_lt
  rw [limitsValid, decide_eq_true_iff, Config.windowLow, Config.windowHigh, Config.maxBalance]
  omega

theorem limitsValid_eq_false_iff {floor lowMark : BitVec 32} {ceiling : BitVec 40} :
    limitsValid floor.toInt lowMark.toInt ceiling.toInt = false ↔
      ¬(floor.toInt ≤ 0 ∧ floor.toInt ≤ lowMark.toInt ∧ lowMark.toInt < ceiling.toInt ∧ 1 ≤ ceiling.toInt) := by
  rw [← limitsValid_iff, Bool.not_eq_true]

end Arguments

end Sys2Proof.Proofs.Checks
end

section
/-! Evaluation of a channel's permit by its state (R91, R93): the rows of the table, and what no row changes. -/

namespace Sys2Proof.Proofs.PermitEvaluation

open Sys2Proof.Machine

section Rows

variable {ch : Channel}

theorem silencedOff_iff : ch.silencedOff = true ↔ ch.silentCut = true ∧ ch.silent = true := by simp [Channel.silencedOff]

theorem eligible_iff : ch.eligible = true ↔
    ch.state = .live ∧ ch.emptyMark = false ∧ ch.cutLatch = false ∧ ch.hostCut = false ∧
      ¬(ch.silentCut = true ∧ ch.silent = true) := by
  rw [← silencedOff_iff]
  simp [Channel.eligible, and_assoc]

/-- What turns a standing permit OFF. -/
def Barred (ch : Channel) : Prop :=
  ch.state ≠ .live ∨ ch.cutLatch = true ∨ ch.hostCut = true ∨ (ch.silentCut = true ∧ ch.silent = true)

theorem barred_iff : (ch.state ≠ .live ∨ ch.cutLatch = true ∨ ch.hostCut = true ∨ ch.silencedOff = true) ↔ Barred ch := by
  rw [silencedOff_iff]
  rfl

theorem evaluate_unbound (h : ch.state = .unbound) : ch.evaluate = ch := if_pos h

theorem evaluate_eligible (hb : ch.state ≠ .unbound) (hp : ch.permit = .off) (h : ch.eligible = true) :
    ch.evaluate = { ch with permit := .on } := by
  simp only [Channel.evaluate, if_neg hb, hp, if_pos h]

theorem evaluate_ineligible (hb : ch.state ≠ .unbound) (hp : ch.permit = .off) (h : ¬ch.eligible = true) :
    ch.evaluate = ch := by
  simp only [Channel.evaluate, if_neg hb, hp, if_neg h]

theorem evaluate_barred (hb : ch.state ≠ .unbound) (hp : ch.permit = .on ∨ ch.permit = .grace) (h : Barred ch) :
    ch.evaluate = ch.permitOff := by
  rcases hp with hp | hp <;> simp only [Channel.evaluate, if_neg hb, hp, if_pos (barred_iff.mpr h)]

theorem evaluate_on_dry (hb : ch.state ≠ .unbound) (hp : ch.permit = .on) (h : ¬Barred ch) (he : ch.emptyMark = true) :
    ch.evaluate = ch.runDry := by
  simp only [Channel.evaluate, if_neg hb, hp, if_neg (mt barred_iff.mp h), if_pos he]

theorem evaluate_on_fed (hb : ch.state ≠ .unbound) (hp : ch.permit = .on) (h : ¬Barred ch) (he : ch.emptyMark = false) :
    ch.evaluate = ch := by
  simp only [Channel.evaluate, if_neg hb, hp, if_neg (mt barred_iff.mp h), if_neg (ne_true_of_eq_false he)]

theorem evaluate_grace_dry (hb : ch.state ≠ .unbound) (hp : ch.permit = .grace) (h : ¬Barred ch) (he : ch.emptyMark = true) :
    ch.evaluate = ch := by
  simp only [Channel.evaluate, if_neg hb, hp, if_neg (mt barred_iff.mp h), if_pos he]

theorem evaluate_grace_fed (hb : ch.state ≠ .unbound) (hp : ch.permit = .grace) (h : ¬Barred ch) (he : ch.emptyMark = false) :
    ch.evaluate = { ch with permit := .on, graceRemaining := 0 } := by
  simp only [Channel.evaluate, if_neg hb, hp, if_neg (mt barred_iff.mp h), if_neg (ne_true_of_eq_false he)]

/-- On a channel that carries the account-empty mark already, "EMPTY entered" is what evaluation makes of the mark. -/
theorem runDry_eq_emptyEntered (hp : ch.permit = .on) (he : ch.emptyMark = true) : ch.runDry = ch.emptyEntered := by
  rw [EmptyEvents.emptyEntered_of_on hp, ← he]

end Rows

/-- Settles O42: one row of the table for each clause. -/
theorem permitEvaluation : Obligations.PermitEvaluation := by
  intro ch silencedOff barred eligible
  refine ⟨evaluate_unbound, fun hb => ⟨fun hp h => evaluate_eligible hb hp (eligible_iff.mpr h),
    fun hp h => evaluate_ineligible hb hp (mt eligible_iff.mp h), fun hp h => evaluate_barred hb hp h,
    fun hp h he => (evaluate_on_dry hb hp h he).trans (runDry_eq_emptyEntered hp he),
    fun hp h he => evaluate_on_fed hb hp h he, fun hp h he => evaluate_grace_dry hb hp h he,
    fun hp h he => evaluate_grace_fed hb hp h he⟩⟩

/-! What every row leaves as it was, and where a permit can stand after one. -/

section Frame

variable (ch : Channel)

theorem runDry_eq : ch.runDry =
    { ch with
      permit := ch.runDry.permit, graceRemaining := ch.runDry.graceRemaining, cutLatch := ch.runDry.cutLatch,
      notice := ch.runDry.notice } := by
  unfold Channel.runDry
  split_ifs <;> rfl

theorem evaluate_eq : ch.evaluate =
    { ch with
      permit := ch.evaluate.permit, graceRemaining := ch.evaluate.graceRemaining, cutLatch := ch.evaluate.cutLatch,
      notice := ch.evaluate.notice } := by
  by_cases hb : ch.state = .unbound
  · rw [evaluate_unbound hb]
  cases hp : ch.permit with
  | off =>
    by_cases h : ch.eligible = true
    · rw [evaluate_eligible hb hp h]
    · rw [evaluate_ineligible hb hp h]
  | on =>
    by_cases h : Barred ch
    · rw [evaluate_barred hb (.inl hp) h]
      rfl
    · obtain he | he := Bool.eq_false_or_eq_true ch.emptyMark
      · rw [evaluate_on_dry hb hp h he]
        exact runDry_eq ch
      · rw [evaluate_on_fed hb hp h he]
  | grace =>
    by_cases h : Barred ch
    · rw [evaluate_barred hb (.inr hp) h]
      rfl
    · obtain he | he := Bool.eq_false_or_eq_true ch.emptyMark
      · rw [evaluate_grace_dry hb hp h he]
      · rw [evaluate_grace_fed hb hp h he]

@[simp] theorem evaluate_state : ch.evaluate.state = ch.state := by rw [evaluate_eq]
@[simp] theorem evaluate_slot : ch.evaluate.slot = ch.slot := by rw [evaluate_eq]
@[simp] theorem evaluate_importTariff : ch.evaluate.importTariff = ch.importTariff := by rw [evaluate_eq]
@[simp] theorem evaluate_exportTariff : ch.evaluate.exportTariff = ch.exportTariff := by rw [evaluate_eq]
@[simp] theorem evaluate_requests : ch.evaluate.requests = ch.requests := by rw [evaluate_eq]
@[simp] theorem evaluate_silent : ch.evaluate.silent = ch.silent := by rw [evaluate_eq]
@[simp] theorem evaluate_emptyMark : ch.evaluate.emptyMark = ch.emptyMark := by rw [evaluate_eq]

end Frame

/-- Evaluation leaves a permit standing on a LIVE channel alone. -/
theorem live_of_evaluate_standing {ch : Channel} (hb : ch.state ≠ .unbound) (standing : ch.evaluate.permit ≠ .off) :
    ch.state = .live := by
  by_contra hl
  cases hp : ch.permit with
  | off =>
    rw [evaluate_ineligible hb hp fun h => hl (eligible_iff.mp h).1] at standing
    exact standing hp
  | on => exact standing (by rw [evaluate_barred hb (.inl hp) (.inl hl)]; rfl)
  | grace => exact standing (by rw [evaluate_barred hb (.inr hp) (.inl hl)]; rfl)

end Sys2Proof.Proofs.PermitEvaluation
end

section
/-! What the shared operations keep of the relations of Safety.lean. `Quiet` says it once for every operation that moves
records, pairs, channels, hold entries and the fault record alone; each operation and each command's block is then shown
to be quiet by its parts. -/

namespace Sys2Proof.Proofs.Invariants

open Sys2Proof.Machine Sys2Proof.Laws Sys2Proof.Proofs.Checks Sys2Proof.Proofs.PermitEvaluation

/-! What an event may do to a channel. -/

/-- From `a` to `b` a channel keeps its binding. -/
structure SameBinding (a b : Channel) : Prop where
  bound : b.bound = a.bound
  importTariff : b.importTariff = a.importTariff
  exportTariff : b.exportTariff = a.exportTariff

/-- The channel also stays OFF while UNBOUND; and outside RUN it does not become LIVE, and issues no request unless it is. -/
structure Alike (live : Bool) (a b : Channel) : Prop extends SameBinding a b where
  off : (a.state = .unbound → a.permit = .off) → b.state = .unbound → b.permit = .off
  requests : live = false → a.state ≠ .live → b.requests = a.requests
  parked : live = false → b.state = .live → a.state = .live

/-- An event that also leaves no permit standing in RUN on a channel that is not LIVE. -/
structure Follows (live : Bool) (a b : Channel) : Prop extends Alike live a b where
  standing : live = true → (a.permit ≠ .off → a.state = .live) → b.permit ≠ .off → b.state = .live

section Events

variable {live : Bool} {a b c ch : Channel}

theorem SameBinding.trans (h : SameBinding a b) (k : SameBinding b c) : SameBinding a c :=
  ⟨k.bound.trans h.bound, k.importTariff.trans h.importTariff, k.exportTariff.trans h.exportTariff⟩

/-- A change that leaves the channel's state and tariffs leaves its binding. -/
theorem sameBinding_of_fields (state : b.state = a.state) (imp : b.importTariff = a.importTariff)
    (exp : b.exportTariff = a.exportTariff) : SameBinding a b :=
  ⟨by simp [Channel.bound, state], imp, exp⟩

theorem Follows.refl (live : Bool) (ch : Channel) : Follows live ch ch :=
  ⟨⟨sameBinding_of_fields rfl rfl rfl, id, fun _ _ => rfl, fun _ => id⟩, fun _ => id⟩

theorem Alike.trans (h : Alike live a b) (k : Alike live b c) : Alike live a c where
  toSameBinding := h.toSameBinding.trans k.toSameBinding
  off := fun off => k.off (h.off off)
  requests := fun hl ha => (k.requests hl fun hb => ha (h.parked hl hb)).trans (h.requests hl ha)
  parked := fun hl hc => h.parked hl (k.parked hl hc)

theorem Follows.trans (h : Follows live a b) (k : Follows live b c) : Follows live a c :=
  ⟨h.toAlike.trans k.toAlike, fun hl standing => k.standing hl (h.standing hl standing)⟩

/-- A change that touches neither the binding, the permit nor the requests. -/
theorem follows_of_fields (state : b.state = a.state) (imp : b.importTariff = a.importTariff)
    (exp : b.exportTariff = a.exportTariff) (permit : b.permit = a.permit) (requests : b.requests = a.requests) :
    Follows live a b := by
  refine ⟨⟨sameBinding_of_fields state imp exp, ?_, fun _ _ => requests, ?_⟩, ?_⟩
  · rw [state, permit]; exact id
  · rw [state]; exact fun _ => id
  · rw [state, permit]; exact fun _ => id

/-- A permit that is turned OFF stands on no channel. -/
theorem Alike.permitOff (h : Alike live a b) : Follows live a b.permitOff where
  toSameBinding := h.toSameBinding.trans (sameBinding_of_fields rfl rfl rfl)
  off := fun _ _ => rfl
  requests := h.requests
  parked := h.parked
  standing := fun _ _ standing => absurd rfl standing

/-- An evaluation sets right in RUN what a change of the channel's conditions has left. -/
theorem Alike.evaluate (h : Alike live a b) : Follows live a b.evaluate where
  toSameBinding := h.toSameBinding.trans (sameBinding_of_fields (evaluate_state b) (evaluate_importTariff b) (evaluate_exportTariff b))
  off := fun off unbound => by
    rw [evaluate_state] at unbound
    rw [evaluate_unbound unbound]
    exact h.off off unbound
  requests := fun hl ha => (evaluate_requests b).trans (h.requests hl ha)
  parked := fun hl hb => h.parked hl (by simpa using hb)
  standing := fun _ before standing => by
    rw [evaluate_state]
    by_cases hu : b.state = .unbound
    · have ha : a.state = .unbound := by
        have := h.bound
        simp [Channel.bound, hu] at this
        exact this
      have aOff : a.permit = .off := by
        by_contra ne
        rw [before ne] at ha
        cases ha
      rw [evaluate_unbound hu] at standing
      exact absurd (h.off (fun _ => aOff) hu) standing
    · exact live_of_evaluate_standing hu standing

theorem evaluate_follows (live : Bool) (ch : Channel) : Follows live ch ch.evaluate := (Follows.refl live ch).toAlike.evaluate

/-- A notice of a changed condition: in RUN it is evaluated, and outside RUN no permit need stand on a LIVE channel. -/
theorem Alike.notify (h : Alike live a b) : Follows live a (b.notify live) := by
  cases live with
  | true => exact h.evaluate
  | false => exact ⟨h, fun hl => absurd hl Bool.false_ne_true⟩

/-- To ON or GRACE from a permit that stands. -/
theorem follows_of_standing (bound : a.state ≠ .unbound) (standing : a.permit ≠ .off) (state : b.state = a.state)
    (imp : b.importTariff = a.importTariff) (exp : b.exportTariff = a.exportTariff) (requests : b.requests = a.requests) :
    Follows live a b := by
  refine ⟨⟨sameBinding_of_fields state imp exp, ?_, fun _ _ => requests, ?_⟩, ?_⟩
  · rw [state]; exact fun _ unbound => absurd unbound bound
  · rw [state]; exact fun _ => id
  · rw [state]; exact fun _ before _ => before standing

theorem drawing_follows (ch : Channel) (d : Option Handle) : Follows live ch { ch with drawing := d } :=
  follows_of_fields rfl rfl rfl rfl rfl

theorem setDeferred_follows (ch : Channel) (flow : Flow) (q : Nat) : Follows live ch (ch.setDeferred flow q) := by
  cases flow <;> exact follows_of_fields rfl rfl rfl rfl rfl

theorem raise_follows (ch : Channel) (cause : BitVec 16) : Follows live ch (ch.raise cause) :=
  follows_of_fields rfl rfl rfl rfl rfl

theorem defer_follows (ch : Channel) (flow : Flow) (q : Nat) : Follows live ch (ch.defer flow q) := by
  unfold Channel.defer
  split_ifs
  · exact setDeferred_follows ch flow _
  · exact (setDeferred_follows ch flow _).trans (raise_follows _ _)

theorem cut_follows (ch : Channel) : Follows live ch ch.cut :=
  (Follows.refl live ch).toAlike.permitOff.trans (follows_of_fields rfl rfl rfl rfl rfl)

theorem park_follows (live : Bool) (ch : Channel) : Follows live ch (ch.park live) := by
  unfold Channel.park
  split_ifs with h
  · refine Alike.notify ⟨⟨?_, rfl, rfl⟩, ?_, fun _ _ => rfl, ?_⟩
    · simp [Channel.bound, h]
    · exact fun _ => ChanState.noConfusion
    · exact fun _ => ChanState.noConfusion
  · exact .refl live ch

theorem parkDamaged_follows (live : Bool) (hb : ch.bound = true) : Follows live ch (ch.parkDamaged live) := by
  cases live with
  | true => exact park_follows true ch
  | false =>
    refine Alike.permitOff ⟨⟨?_, rfl, rfl⟩, ?_, fun _ _ => rfl, ?_⟩
    · rw [hb]; rfl
    · exact fun _ => ChanState.noConfusion
    · exact fun _ => ChanState.noConfusion

theorem emptyEntered_follows (live : Bool) (hb : ch.bound = true) : Follows live ch ch.emptyEntered := by
  have marked : Follows live ch { ch with emptyMark := true } := follows_of_fields rfl rfl rfl rfl rfl
  cases hp : ch.permit with
  | on =>
    have standing : ch.permit ≠ .off := by simp [hp]
    rw [EmptyEvents.emptyEntered_of_on hp]
    unfold Channel.runDry
    split_ifs
    · exact follows_of_standing (bound_iff.mp hb) standing rfl rfl rfl rfl
    · exact marked.trans (cut_follows _)
  | grace => rw [EmptyEvents.emptyEntered_of_not_on (.inl hp)]; exact marked
  | off => rw [EmptyEvents.emptyEntered_of_not_on (.inr hp)]; exact marked

theorem emptyLeft_follows (live : Bool) (hb : ch.bound = true) : Follows live ch (ch.emptyLeft live) := by
  cases hp : ch.permit with
  | on => rw [EmptyEvents.emptyLeft_of_on live hp]; exact follows_of_fields rfl rfl rfl rfl rfl
  | grace =>
    have standing : ch.permit ≠ .off := by simp [hp]
    rw [EmptyEvents.emptyLeft_of_grace live hp]
    exact follows_of_standing (bound_iff.mp hb) standing rfl rfl rfl rfl
  | off =>
    rw [EmptyEvents.emptyLeft_of_off live hp]
    have cleared : Follows live ch { ch with emptyMark := false, cutLatch := ch.cutLatch && !ch.autoRestore } :=
      follows_of_fields rfl rfl rfl rfl rfl
    exact cleared.toAlike.notify

theorem reloadSilence_follows (live : Bool) (ch : Channel) : Follows live ch (ch.reloadSilence live) := by
  unfold Channel.reloadSilence
  have reloaded : Follows live ch { ch with silenceCounter := ch.silenceTimeout, silent := false } :=
    follows_of_fields rfl rfl rfl rfl rfl
  split_ifs
  · exact reloaded.toAlike.notify
  · exact reloaded

theorem unpark_follows (ch : Channel) : Follows true ch ch.unpark := by
  unfold Channel.unpark
  split_ifs with h
  · refine Alike.evaluate ⟨⟨?_, rfl, rfl⟩, ?_, fun _ _ => rfl, ?_⟩
    · simp [Channel.bound, h]
    · exact fun _ => ChanState.noConfusion
    · exact fun hl => Bool.noConfusion hl
  · exact .refl true ch

end Events

/-- The events of the shared operations keep what `Follows` says. -/
theorem follows_closed (live : Bool) (before : Chan → Channel) :
    ChannelClosed live (fun c ch => Follows live (before c) ch) where
  drawing := fun _ ch h => h.trans (drawing_follows ch none)
  park := fun _ _ hb h => h.trans (parkDamaged_follows live hb)
  entered := fun _ _ hb h => h.trans (emptyEntered_follows live hb)
  left := fun _ _ hb h => h.trans (emptyLeft_follows live hb)

/-! Hold entries, records and pairs. -/

theorem freed_wf (e : Hold) : e.freed.wf := by
  simp [Hold.wf, Hold.freed]

/-- Freeing and drawing keep the values of a hold entry. -/
theorem wf_closed (before : HoldIdx → Hold) : HoldClosed (fun h e => (before h).wf → e.wf) where
  freed := fun _ e _ _ => freed_wf e
  drawn := fun h e n hn keep hb => by
    obtain ⟨free, held, due⟩ := keep hb
    refine ⟨fun hf => ?_, fun hh => ?_, due⟩
    · have := free hf
      rw [this] at hn
      exact absurd hn (Nat.not_lt_zero n)
    · obtain ⟨low, high, life⟩ := held hh
      exact ⟨by dsimp only; omega, by dsimp only; omega, life⟩
  undrawn := fun h e keep hb => by
    obtain ⟨free, held, due⟩ := keep hb
    refine ⟨fun hf => ?_, held, due⟩
    have he := free hf
    rw [he]

theorem limitsWf_of_moved {a b : Account} (h : Moved a b) (wf : a.limitsWf) : b.limitsWf := by
  intro hb
  rcases h.state with same | damaged
  · rw [same] at hb
    have := wf hb
    have bal := h.balance
    rw [h.floor, h.lowMark, h.ceiling]
    omega
  · rw [damaged] at hb
    simp at hb

theorem tagsWf_of_kept {s t : State} (kept : ∀ j, PairKept (s.pair j) (t.pair j)) (wf : s.tagsWf) : t.tagsWf := by
  have back : ∀ i p, t.pair i = some p → ∃ q, s.pair i = some q ∧ p.tag = q.tag ∧ (q.state ≠ .free → p.state ≠ .free) := by
    intro i p hp
    rcases kept i with same | marked
    · exact ⟨p, same ▸ hp, rfl, id⟩
    · rw [marked] at hp
      cases hq : s.pair i with
      | none => rw [hq] at hp; cases hp
      | some q =>
        rw [hq] at hp
        cases hp
        exact ⟨q, rfl, rfl, fun _ => LifeState.noConfusion⟩
  obtain ⟨each, distinct⟩ := wf
  refine ⟨fun i p hp => ?_, fun i j p q hp hq tags => ?_⟩
  · obtain ⟨q, hq, tag, state⟩ := back i p hp
    obtain ⟨nonzero, notFree⟩ := each i q hq
    exact ⟨tag ▸ nonzero, state notFree⟩
  · obtain ⟨p', hp', ptag, -⟩ := back i p hp
    obtain ⟨q', hq', qtag, -⟩ := back j q hq
    exact distinct i j p' q' hp' hq' (ptag ▸ qtag ▸ tags)

/-! Quiet operations. -/

/-- From `s` to `t` nothing but records, pairs, channels, hold entries and the fault record has changed, and each of them as
the relations of Safety.lean allow. -/
structure Quiet (s t : State) : Prop where
  outside : SameOutside s t
  limits : ∀ j, (s.account j).limitsWf → (t.account j).limitsWf
  tags : s.tagsWf → t.tagsWf
  channels : ∀ c, Follows s.noticesLive (s.channel c) (t.channel c)
  holds : ∀ h, (s.hold h).wf → (t.hold h).wf

theorem Quiet.refl (s : State) : Quiet s s := ⟨.refl s, fun _ => id, id, fun _ => .refl _ _, fun _ => id⟩

theorem Quiet.trans {s t u : State} (h : Quiet s t) (k : Quiet t u) : Quiet s u where
  outside := h.outside.trans k.outside
  limits := fun j wf => k.limits j (h.limits j wf)
  tags := fun wf => k.tags (h.tags wf)
  channels := fun c => (h.channels c).trans (noticesLive_eq h.outside ▸ k.channels c)
  holds := fun x wf => k.holds x (h.holds x wf)

section Primitives

variable {s : State}

/-- An operation whose laws are known on every table. -/
theorem quiet_of_laws {t : State} (outside : SameOutside s t) (moved : RecordsMoved s t)
    (channels : AllChannels (fun c ch => Follows s.noticesLive (s.channel c) ch) t)
    (holds : AllHolds (fun h e => (s.hold h).wf → e.wf) t) : Quiet s t where
  outside := outside
  limits := fun j => limitsWf_of_moved (moved.account j)
  tags := tagsWf_of_kept moved.pair
  channels := channels
  holds := holds

theorem allFollow (s : State) : AllChannels (fun c ch => Follows s.noticesLive (s.channel c) ch) s := fun _ => .refl _ _

theorem allHoldsWf (s : State) : AllHolds (fun h e => (s.hold h).wf → e.wf) s := fun _ => id

theorem limitsWf_written {a : Account} (h : a.limitsWf) : ({ a with syndrome := 0 } : Account).limitsWf := h

theorem setAccount_quiet {i : Slot} {a : Account} (h : (s.account i).limitsWf → a.limitsWf) : Quiet s (s.setAccount i a) where
  outside := setAccount_outside s i a
  limits := fun j wf => by
    rw [setAccount_account]
    split_ifs with e
    · subst e; exact limitsWf_written (h wf)
    · exact wf
  tags := id
  channels := fun _ => .refl _ _
  holds := fun _ => id

theorem modifyAccount_quiet {i : Slot} {f : Account → Account} (h : (s.account i).limitsWf → (f (s.account i)).limitsWf) :
    Quiet s (s.modifyAccount i f) := setAccount_quiet h

theorem modifyAccount_quiet_of_moved {i : Slot} {f : Account → Account} (h : Moved (s.account i) (f (s.account i))) :
    Quiet s (s.modifyAccount i f) := setAccount_quiet (limitsWf_of_moved h)

theorem raiseAccount_quiet (i : Slot) (cause : BitVec 16) : Quiet s (s.raiseAccount i cause) := modifyAccount_quiet id

theorem setPair_quiet {i : Slot} {p : Option MapPair} (h : s.tagsWf → (s.setPair i p).tagsWf) : Quiet s (s.setPair i p) where
  outside := setPair_outside s i p
  limits := fun _ => id
  tags := h
  channels := fun _ => .refl _ _
  holds := fun _ => id

theorem setChannel_quiet {c : Chan} {ch : Channel} (h : Follows s.noticesLive (s.channel c) ch) :
    Quiet s (s.setChannel c ch) where
  outside := setChannel_outside s c ch
  limits := fun _ => id
  tags := id
  channels := fun d => by
    rw [setChannel_channel]
    split_ifs with e
    · subst e; exact h
    · exact .refl _ _
  holds := fun _ => id

theorem modifyChannel_quiet {c : Chan} {f : Channel → Channel} (h : Follows s.noticesLive (s.channel c) (f (s.channel c))) :
    Quiet s (s.modifyChannel c f) := setChannel_quiet h

theorem mapBound_quiet {i : Slot} {f : Channel → Channel}
    (h : ∀ ch : Channel, ch.bound = true → Follows s.noticesLive ch (f ch)) : Quiet s (s.mapBound i f) where
  outside := mapBound_outside s i f
  limits := fun _ => id
  tags := id
  channels := fun d => by
    rw [mapBound_channel]
    split_ifs with e
    · exact h _ (boundTo_bound e)
    · exact .refl _ _
  holds := fun _ => id

theorem setHold_quiet {h : HoldIdx} {e : Hold} (he : (s.hold h).wf → e.wf) : Quiet s (s.setHold h e) where
  outside := setHold_outside s h e
  limits := fun _ => id
  tags := id
  channels := fun _ => .refl _ _
  holds := fun k wf => by
    rw [setHold_hold]
    split_ifs with eq
    · subst eq; exact he wf
    · exact wf

theorem modifyHold_quiet {h : HoldIdx} {f : Hold → Hold} (hf : (s.hold h).wf → (f (s.hold h)).wf) :
    Quiet s (s.modifyHold h f) := setHold_quiet hf

theorem freeHold_quiet (i : Slot) (h : HoldIdx) : Quiet s (s.freeHold i h) :=
  quiet_of_laws (freeHold_outside s i h) (freeHold_moved s i h) ((allFollow s).freeHold (follows_closed _ _) i h)
    ((allHoldsWf s).freeHold (wf_closed _) i h)

theorem damage_quiet (i : Slot) : Quiet s (s.damage i) :=
  quiet_of_laws (damage_outside s i) (damage_moved s i) ((allFollow s).damage (follows_closed _ _) i)
    ((allHoldsWf s).damage (wf_closed _) i)

theorem readRecord_quiet (i : Slot) : Quiet s (s.readRecord i).1 :=
  quiet_of_laws (readRecord_outside s i) (readRecord_moved s i) ((allFollow s).readRecord (follows_closed _ _) i)
    ((allHoldsWf s).readRecord (wf_closed _) i)

theorem lowerDependents_quiet (p : Slot) : Quiet s (s.lowerDependents p) :=
  quiet_of_laws (lowerDependents_outside s p) (lowerDependents_moved s p)
    ((allFollow s).lowerDependents (follows_closed _ _) p) ((allHoldsWf s).lowerDependents (wf_closed _) p)

theorem dropRefill_quiet (i : Slot) : Quiet s (s.dropRefill i) :=
  quiet_of_laws (dropRefill_outside s i) (dropRefill_moved s i) ((allFollow s).dropRefill (follows_closed _ _) i)
    ((allHoldsWf s).dropRefill (wf_closed _) i)

theorem readPool_quiet (p : Slot) : Quiet s (s.readPool p).1 :=
  quiet_of_laws (readPool_outside s p) (readPool_moved s p) ((allFollow s).readPool (follows_closed _ _) p)
    ((allHoldsWf s).readPool (wf_closed _) p)

theorem settle_quiet (i : Slot) : Quiet s (s.settle i) :=
  quiet_of_laws (settle_outside s i) (settle_moved s i) ((allFollow s).settle (follows_closed _ _) i)
    ((allHoldsWf s).settle (wf_closed _) i)

theorem chargeQuantity_quiet (c : Chan) (flow : Flow) (q : Nat) : Quiet s (s.chargeQuantity c flow q).1 :=
  quiet_of_laws (chargeQuantity_outside s c flow q) (chargeQuantity_moved s c flow q)
    ((allFollow s).chargeQuantity (follows_closed _ _) c flow q) ((allHoldsWf s).chargeQuantity (wf_closed _) c flow q)

theorem chargeDeferred_quiet (c : Chan) (flow : Flow) : Quiet s (s.chargeDeferred c flow).1 :=
  (modifyChannel_quiet (setDeferred_follows _ flow 0)).trans (chargeQuantity_quiet c flow _)

theorem chargeBoth_quiet (c : Chan) : Quiet s (s.chargeBoth c).1 :=
  (chargeDeferred_quiet c .imp).trans (chargeDeferred_quiet c .exp)

theorem stopDrawing_quiet (c : Chan) : Quiet s (s.stopDrawing c) := by
  unfold State.stopDrawing
  refine Quiet.trans ?_ (modifyChannel_quiet (drawing_follows _ none))
  split
  · next h _ => exact modifyHold_quiet fun wf => (wf_closed s.hold).undrawn h _ id wf
  · exact .refl s

/-- A run over a list is quiet when each of its steps is. -/
theorem foldl_quiet {α : Type} {f : State → α → State} (hf : ∀ s x, Quiet s (f s x)) (l : List α) (s : State) :
    Quiet s (l.foldl f s) := by
  induction l generalizing s with
  | nil => exact .refl s
  | cons x l ih => exact (hf s x).trans (ih (f s x))

/-- Marking the pair of a slot with a state that is not FREE leaves the tags as they are. -/
theorem tagsWf_markPair {i : Slot} {l : LifeState} (notFree : l ≠ .free) (wf : s.tagsWf) :
    (s.setPair i ((s.pair i).map fun p => { p with state := l })).tagsWf := by
  obtain ⟨each, distinct⟩ := wf
  have back : ∀ j p, (s.setPair i ((s.pair i).map fun p => { p with state := l })).pair j = some p →
      ∃ q, s.pair j = some q ∧ p.tag = q.tag ∧ p.state ≠ .free := by
    intro j p hp
    rw [setPair_pair] at hp
    split_ifs at hp with e
    · subst e
      obtain ⟨q, hq, rfl⟩ := Option.map_eq_some_iff.mp hp
      exact ⟨q, hq, rfl, notFree⟩
    · exact ⟨p, hp, rfl, (each j p hp).2⟩
  refine ⟨fun j p hp => ?_, fun j k p q hp hq tags => ?_⟩
  · obtain ⟨q, hq, tag, state⟩ := back j p hp
    exact ⟨tag ▸ (each j q hq).1, state⟩
  · obtain ⟨p', hp', ptag, -⟩ := back j p hp
    obtain ⟨q', hq', qtag, -⟩ := back k q hq
    exact distinct j k p' q' hp' hq' (ptag ▸ qtag ▸ tags)

theorem tagsWf_setPair_none {i : Slot} (wf : s.tagsWf) : (s.setPair i none).tagsWf := by
  obtain ⟨each, distinct⟩ := wf
  have back : ∀ j p, (s.setPair i none).pair j = some p → s.pair j = some p := by
    intro j p hp
    rw [setPair_pair] at hp
    split_ifs at hp
    exact hp
  exact ⟨fun j p hp => each j p (back j p hp), fun j k p q hp hq => distinct j k p q (back j p hp) (back k q hq)⟩

/-- A new pair whose tag no slot carries. -/
theorem tagsWf_setPair_new {i : Slot} {p : MapPair} (tag : p.tag ≠ 0) (notFree : p.state ≠ .free)
    (absent : ∀ j q, s.pair j = some q → q.tag ≠ p.tag) (wf : s.tagsWf) : (s.setPair i (some p)).tagsWf := by
  obtain ⟨each, distinct⟩ := wf
  have back : ∀ j q, (s.setPair i (some p)).pair j = some q → (i = j ∧ q = p) ∨ s.pair j = some q := by
    intro j q hq
    rw [setPair_pair] at hq
    split_ifs at hq with e
    · exact .inl ⟨e, (Option.some.inj hq).symm⟩
    · exact .inr hq
  refine ⟨fun j q hq => ?_, fun j k q r hq hr tags => ?_⟩
  · obtain ⟨-, rfl⟩ | old := back j q hq
    · exact ⟨tag, notFree⟩
    · exact each j q old
  · obtain ⟨rfl, rfl⟩ | oldq := back j q hq <;> obtain ⟨rfl, rfl⟩ | oldr := back k r hr
    · rfl
    · exact absurd tags.symm (absent k r oldr)
    · exact absurd tags (absent j q oldq)
    · exact distinct j k q r oldq oldr tags

/-- A record written last: its limits are asked for over the state before the quiet operations. -/
theorem Quiet.setAccount {t : State} {i : Slot} {a : Account} (q : Quiet s t)
    (h : (s.account i).limitsWf → a.limitsWf) : Quiet s (t.setAccount i a) where
  outside := q.outside.trans (setAccount_outside t i a)
  limits := fun j wf => by
    rw [setAccount_account]
    split_ifs with e
    · subst e; exact limitsWf_written (h wf)
    · exact q.limits j wf
  tags := q.tags
  channels := q.channels
  holds := q.holds

/-- A change of an account's lifecycle state to one that is not FREE (R146). -/
theorem Quiet.setLife {t : State} {i : Slot} {l : LifeState} (q : Quiet s t) (notFree : l ≠ .free)
    (h : (s.account i).limitsWf → ({ t.account i with state := l } : Account).limitsWf) : Quiet s (t.setLife i l) :=
  (q.trans (setPair_quiet (tagsWf_markPair notFree))).setAccount h

end Primitives

end Sys2Proof.Proofs.Invariants
end

section
/-! The blocks of the commands that move records, pairs, channels and hold entries alone: each is quiet. -/

namespace Sys2Proof.Proofs.Invariants

open Sys2Proof.Machine Sys2Proof.Laws Sys2Proof.Proofs.Checks

/-! The checks before a command's own. -/

section Guards

variable {s : State} {b : Byte} {i : Slot}

theorem refuse_quiet (s : State) (st : Status) : Quiet s (refuse s st).state := .refl s

theorem answer_quiet {t : State} {st : Status} {result : List Byte} (h : Quiet s t) : Quiet s (Reply.mk t st result).state := h

theorem withRecord_quiet {k : Account → Reply} (h : s.sound i → Quiet s (k (s.account i)).state) :
    Quiet s (withRecord i s k).state := by
  obtain free | damaged | sound | mismatched := lookup_cases s i
  · rw [withRecord_free free]; exact refuse_quiet s _
  · rw [withRecord_damaged damaged]; exact refuse_quiet s _
  · rw [withRecord_sound sound]; exact h sound
  · rw [withRecord_mismatched mismatched]; exact damage_quiet i

theorem withLive_quiet {k : Account → Reply}
    (h : (s.account i).state = .opened ∨ (s.account i).state = .frozen → Quiet s (k (s.account i)).state) :
    Quiet s (withLive i s k).state := by
  refine withRecord_quiet fun _ => ?_
  split_ifs with live
  · exact h (live_iff.mp live)
  · exact refuse_quiet s _

theorem withHold_quiet {w : BitVec 16} {k : HoldIdx → Account → Reply}
    (h : (s.hold (Handle.ofWord w).idx).held = true →
      Quiet s (k (Handle.ofWord w).idx (s.account (s.hold (Handle.ofWord w).idx).slot)).state) :
    Quiet s (withHold w s k).state := by
  unfold withHold
  dsimp only
  split_ifs with honoured
  · exact withRecord_quiet fun _ => h (Bool.and_eq_true_iff.mp honoured).1
  · exact refuse_quiet s _

theorem withChannel_quiet {k : Chan → Reply} (h : ∀ c, Quiet s (k c).state) : Quiet s (withChannel b s k).state := by
  unfold withChannel
  split
  · exact refuse_quiet s _
  · exact h _

theorem withBound_quiet {k : Chan → Reply} (h : ∀ c, Quiet s (k c).state) : Quiet s (withBound b s k).state :=
  withChannel_quiet fun c => by
    split_ifs
    · exact h c
    · exact refuse_quiet s _

end Guards

/-! The Account Table. -/

section Accounts

variable {s : State} {slot : Slot}

/-- Among OPEN, FROZEN and RETIRED a record keeps its limits whatever its state becomes. -/
theorem limitsWf_of_state {a b : Account} (state : a.state = .opened ∨ a.state = .frozen ∨ a.state = .retired)
    (floor : b.floor = a.floor) (lowMark : b.lowMark = a.lowMark) (ceiling : b.ceiling = a.ceiling)
    (balance : b.balance ≤ max a.balance a.ceiling) (wf : a.limitsWf) : b.limitsWf := by
  intro _
  have := wf state
  rw [floor, lowMark, ceiling]
  omega

theorem limitsWf_of_valid {a : Account} (valid : limitsValid a.floor a.lowMark a.ceiling = true)
    (balance : a.balance ≤ a.ceiling) : a.limitsWf := by
  intro _
  rw [limitsValid, decide_eq_true_iff] at valid
  omega

theorem openAccountBody_quiet (accountTag : BitVec 32) (kind cls : Byte) (floor lowMark : BitVec 32) (ceiling : BitVec 40) :
    Quiet s (openAccountBody accountTag kind cls floor lowMark ceiling s).state := by
  unfold openAccountBody
  split
  · exact refuse_quiet s _
  split_ifs with bad dup
  · exact refuse_quiet s _
  · exact refuse_quiet s _
  split
  · exact refuse_quiet s _
  push Not at bad
  obtain ⟨nonzero, -, valid⟩ := bad
  have absent := AccountReads.slotOfTag_eq_none_iff.mp (Option.not_isSome_iff_eq_none.mp dup)
  refine (setPair_quiet (tagsWf_setPair_new nonzero LifeState.noConfusion absent)).setAccount fun _ => ?_
  have limits := limitsValid_iff.mp (Bool.eq_true_of_not_eq_false valid)
  refine limitsWf_of_valid (Bool.eq_true_of_not_eq_false valid) ?_
  show 0 ≤ ceiling.toInt
  omega

theorem setLimitsBody_quiet (floor lowMark : BitVec 32) (ceiling : BitVec 40) :
    Quiet s (setLimitsBody slot floor lowMark ceiling s).state :=
  withLive_quiet fun _ => by
    split_ifs with bad
    · exact refuse_quiet s _
    · push Not at bad
      obtain ⟨valid, balance⟩ := bad
      refine Quiet.trans (modifyAccount_quiet fun _ => ?_) (settle_quiet slot)
      exact limitsWf_of_valid (Bool.eq_true_of_not_eq_false valid) balance

theorem setClassBody_quiet (cls : Byte) : Quiet s (setClassBody slot cls s).state :=
  withLive_quiet fun _ => by
    split_ifs
    · exact refuse_quiet s _
    · exact answer_quiet (modifyAccount_quiet id)

theorem adjusted_quiet {f : Account → Account} (n : Nat) (h : Moved (s.account slot) (f (s.account slot))) :
    Quiet s (adjusted slot n (s.modifyAccount slot f)).state :=
  (modifyAccount_quiet_of_moved h).trans (settle_quiet slot)

theorem adjustBody_quiet (dir : Byte) (amount : BitVec 32) (force : Byte) :
    Quiet s (adjustBody slot dir amount force s).state :=
  withLive_quiet fun _ => by
    dsimp only
    split
    · exact refuse_quiet s _
    split
    · exact adjusted_quiet _ (usageDebit_moved _ _)
    · split_ifs
      · exact refuse_quiet s _
      · exact adjusted_quiet _ (debit_moved _ _)
    · split_ifs with above
      · exact refuse_quiet s _
      · refine adjusted_quiet _ (credit_moved _ _ ?_)
        unfold Account.headroom
        omega
    · exact refuse_quiet s _

theorem noticesLive_of_run (h : s.phase = .run) : s.noticesLive = true := by simp [State.noticesLive, h]

theorem noticesLive_after {t : State} (h : s.phase = .run) (q : Quiet s t) : t.noticesLive = true :=
  (noticesLive_eq q.outside).trans (noticesLive_of_run h)

theorem freezeBody_quiet (run : s.phase = .run) : Quiet s (freezeBody slot s).state :=
  withLive_quiet fun live => by
    split_ifs
    · have frozen : Quiet s (s.setLife slot .frozen) := (Quiet.refl s).setLife LifeState.noConfusion
        (limitsWf_of_state (live.imp_right .inl) rfl rfl rfl (le_max_left _ _))
      refine frozen.trans (mapBound_quiet fun ch _ => ?_)
      rw [noticesLive_after run frozen]
      exact park_follows true ch
    · exact refuse_quiet s _

theorem chargeIfBound_quiet (i : Slot) (s : State) (c : Chan) : Quiet s (State.chargeIfBound i s c) := by
  unfold State.chargeIfBound
  split_ifs
  · exact chargeBoth_quiet c
  · exact .refl s

theorem thawBody_quiet (run : s.phase = .run) : Quiet s (thawBody slot s).state :=
  withLive_quiet fun live => by
    split_ifs
    · have opened : Quiet s (s.setLife slot .opened) := (Quiet.refl s).setLife LifeState.noConfusion
        (limitsWf_of_state (live.imp_right .inl) rfl rfl rfl (le_max_left _ _))
      have unparked : Quiet s ((s.setLife slot .opened).mapBound slot Channel.unpark) :=
        opened.trans (mapBound_quiet fun ch _ => by
          rw [noticesLive_after run opened]
          exact unpark_follows ch)
      exact (unparked.trans (foldl_quiet (chargeIfBound_quiet slot) _ _)).trans
        (mapBound_quiet fun ch _ => evaluate_follows _ ch)
    · exact refuse_quiet s _

theorem foldl_moved {α : Type} {f : State → α → State} (hf : ∀ s x, RecordsMoved s (f s x)) (l : List α) (s : State) :
    RecordsMoved s (l.foldl f s) := by
  induction l generalizing s with
  | nil => exact .refl s
  | cons x l ih => exact (hf s x).trans (ih (f s x))

theorem closeBody_quiet : Quiet s (closeBody slot s).state :=
  withLive_quiet fun live => by
    split_ifs
    · exact refuse_quiet s _
    · exact refuse_quiet s _
    · dsimp only
      have freed : RecordsMoved s ((s.account slot).holdList.foldl (fun s h => s.freeHold slot h) s) :=
        foldl_moved (fun s h => freeHold_moved s slot h) _ s
      have emptied : RecordsMoved s (((s.account slot).holdList.foldl (fun s h => s.freeHold slot h) s).modifyAccount slot
          (fun a => { a with holdList := [], heldTotal := 0 })) :=
        freed.trans (modifyAccount_moved (by constructor <;> simp))
      have dropped := (emptied.trans (dropRefill_moved _ slot)).account slot
      refine Quiet.setLife (((foldl_quiet (fun s h => freeHold_quiet slot h) _ s).trans (modifyAccount_quiet id)).trans
        (dropRefill_quiet slot)) LifeState.noConfusion ?_
      exact limitsWf_of_state (live.imp_right .inl) dropped.floor dropped.lowMark dropped.ceiling dropped.balance

theorem limitsWf_zero : Account.zero.limitsWf := by
  intro h
  simp [Account.zero] at h

theorem releaseBody_quiet : Quiet s (releaseBody slot s).state :=
  withRecord_quiet fun _ => by
    split_ifs
    · exact (setPair_quiet tagsWf_setPair_none).setAccount fun _ => limitsWf_zero
    · exact refuse_quiet s _

theorem readAccountBody_quiet : Quiet s (readAccountBody slot s).state := withRecord_quiet fun _ => .refl s

theorem readFiguresBody_quiet : Quiet s (readFiguresBody slot s).state := withRecord_quiet fun _ => .refl s

theorem findTagBody_quiet (accountTag : BitVec 32) : Quiet s (findTagBody accountTag s).state := by
  unfold findTagBody
  split_ifs
  · exact refuse_quiet s _
  · split
    · exact refuse_quiet s _
    · exact .refl s

theorem clearStickyBody_quiet : Quiet s (clearStickyBody slot s).state :=
  withRecord_quiet fun _ => answer_quiet (modifyAccount_quiet id)

end Accounts

/-! The Meter Channels and the Permit Unit. -/

section Channels

variable {s : State} {b : Byte}

theorem resyncChannelBody_quiet (run : s.phase = .run) : Quiet s (resyncChannelBody b s).state :=
  withBound_quiet fun c => by
    have cleared : Follows true (s.channel c) { s.channel c with sync := none, tamper := false } :=
      follows_of_fields rfl rfl rfl rfl rfl
    refine answer_quiet (modifyChannel_quiet ?_)
    rw [noticesLive_of_run run]
    exact cleared.trans (reloadSilence_follows true _)

theorem readChannelBody_quiet (clear : Byte) : Quiet s (readChannelBody b clear s).state :=
  withChannel_quiet fun c => by
    split
    · exact refuse_quiet s _
    · exact modifyChannel_quiet (follows_of_fields rfl rfl rfl rfl rfl)
    · exact .refl s

theorem withOptions_follows (grace timeout : Nat) (auto cut : Bool) (ch : Channel) :
    Follows true ch (Channel.withOptions grace timeout auto cut ch) := by
  have set : Follows true ch { ch with
      grace := grace, silenceTimeout := timeout, autoRestore := auto, silentCut := cut,
      silenceCounter := if ch.bound then timeout else ch.silenceCounter } := follows_of_fields rfl rfl rfl rfl rfl
  unfold Channel.withOptions
  dsimp only
  split
  · exact set
  · exact set.toAlike.notify

theorem setChannelOptionsBody_quiet (run : s.phase = .run) (grace timeout auto cut : Byte) :
    Quiet s (setChannelOptionsBody b grace timeout auto cut s).state :=
  withChannel_quiet fun c => by
    split
    · refine modifyChannel_quiet ?_
      rw [noticesLive_of_run run]
      exact withOptions_follows _ _ _ _ _
    · exact refuse_quiet s _

theorem restorePermitBody_quiet : Quiet s (restorePermitBody b s).state :=
  withBound_quiet fun c => by
    have restored : Follows s.noticesLive (s.channel c) { s.channel c with cutLatch := false, hostCut := false } :=
      follows_of_fields rfl rfl rfl rfl rfl
    exact setChannel_quiet restored.toAlike.evaluate

theorem cutPermitBody_quiet : Quiet s (cutPermitBody b s).state :=
  withBound_quiet fun c => answer_quiet (modifyChannel_quiet
    ((Follows.refl _ (s.channel c)).toAlike.permitOff.trans (follows_of_fields rfl rfl rfl rfl rfl)))

end Channels

/-! The Hold Table and the Refill Unit. -/

section Holds

variable {s : State} {slot : Slot}

theorem placed_quiet (h : HoldIdx) {n lifetime : Nat} (low : 1 ≤ n) (high : n ≤ Config.maxAmount) (life : lifetime ≤ 65535) :
    Quiet s (s.placed slot h n lifetime) := by
  refine Quiet.trans (modifyHold_quiet fun _ => ?_) (modifyAccount_quiet id)
  exact ⟨fun held => absurd held Bool.true_eq_false_eq_False, fun _ => ⟨low, high, life⟩, fun due => Bool.noConfusion due⟩

theorem placeHoldBody_quiet (amount : BitVec 32) (lifetime : BitVec 16) :
    Quiet s (placeHoldBody slot amount lifetime s).state :=
  withLive_quiet fun _ => by
    dsimp only
    split_ifs with _ range
    · exact refuse_quiet s _
    · exact refuse_quiet s _
    · exact refuse_quiet s _
    · exact refuse_quiet s _
    · exact refuse_quiet s _
    split
    · exact refuse_quiet s _
    · have life := lifetime.isLt
      exact (placed_quiet _ (by omega) (by omega) (by omega)).trans (settle_quiet slot)

theorem captureHoldBody_quiet (handle : BitVec 16) (amount : BitVec 32) : Quiet s (captureHoldBody handle amount s).state :=
  withHold_quiet fun _ => by
    dsimp only
    split_ifs
    · exact refuse_quiet s _
    · exact (freeHold_quiet _ _).trans (settle_quiet _)
    · exact ((modifyAccount_quiet_of_moved (usageDebit_moved _ _)).trans (freeHold_quiet _ _)).trans (settle_quiet _)

theorem releaseHoldBody_quiet (handle : BitVec 16) : Quiet s (releaseHoldBody handle s).state :=
  withHold_quiet fun _ => (freeHold_quiet _ _).trans (settle_quiet _)

theorem readHoldBody_quiet (handle : BitVec 16) : Quiet s (readHoldBody handle s).state := by
  unfold readHoldBody
  dsimp only
  split_ifs
  · exact .refl s
  · exact refuse_quiet s _

theorem listHoldsBody_quiet : Quiet s (listHoldsBody slot s).state := withRecord_quiet fun _ => .refl s

theorem startDrawing_quiet (c : Chan) (h : Handle) (held : (s.hold h.idx).held = true) : Quiet s (s.startDrawing c h) := by
  refine Quiet.trans (modifyChannel_quiet (drawing_follows _ (some h))) (modifyHold_quiet fun wf => ?_)
  obtain ⟨-, figures, due⟩ := wf
  exact ⟨fun free => absurd (held.symm.trans free) Bool.true_eq_false_eq_False, figures, due⟩

theorem drawHoldBody_quiet (channel : Byte) (handle : BitVec 16) : Quiet s (drawHoldBody channel handle s).state :=
  withHold_quiet fun held => by
    split
    · exact refuse_quiet s _
    split_ifs
    · exact refuse_quiet s _
    · exact refuse_quiet s _
    · exact refuse_quiet s _
    · exact startDrawing_quiet _ _ held

theorem endDrawBody_quiet (channel : Byte) : Quiet s (endDrawBody channel s).state :=
  withChannel_quiet fun c => by
    split
    · exact refuse_quiet s _
    · exact stopDrawing_quiet c

theorem setRefillBody_quiet (pool : Slot) (amount : BitVec 32) (count : Byte) :
    Quiet s (setRefillBody slot pool amount count s).state :=
  withLive_quiet fun _ => by
    dsimp only
    split_ifs
    · exact refuse_quiet s _
    · exact refuse_quiet s _
    refine withRecord_quiet fun _ => ?_
    split_ifs
    · exact refuse_quiet s _
    · exact refuse_quiet s _
    · exact answer_quiet (((dropRefill_quiet slot).trans (modifyAccount_quiet id)).trans (modifyAccount_quiet id))

theorem clearRefillBody_quiet : Quiet s (clearRefillBody slot s).state :=
  withLive_quiet fun _ => by
    split_ifs
    · exact refuse_quiet s _
    split
    · exact refuse_quiet s _
    · exact dropRefill_quiet slot

end Holds

/-! Record integrity. -/

section Integrity

variable {s : State} {slot : Slot}

theorem rebuiltRefill_quiet (kind : Kind) (asRead : Option RefillSpec) : Quiet s (s.rebuiltRefill slot kind asRead).1 := by
  unfold State.rebuiltRefill
  split
  · exact .refl s
  dsimp only
  split_ifs
  · exact .refl s
  · exact readPool_quiet _
  · exact (readPool_quiet _).trans (lowerDependents_quiet _)
  · exact readPool_quiet _

/-- Of two writes of one record the last stands. -/
theorem setAccount_setAccount (s : State) (i : Slot) (a b : Account) : (s.setAccount i a).setAccount i b = s.setAccount i b := by
  simp [State.setAccount]

theorem setLife_setAccount (s : State) (i : Slot) (l : LifeState) (a : Account) :
    (s.setLife i l).setAccount i a = (s.setPair i ((s.pair i).map fun p => { p with state := l })).setAccount i a :=
  setAccount_setAccount _ i _ a

theorem rebuildAccountBody_quiet (balance : BitVec 40) (floor lowMark : BitVec 32) (ceiling : BitVec 40)
    (charged credited : BitVec 48) (lastSweep : Byte) :
    Quiet s (rebuildAccountBody slot balance floor lowMark ceiling charged credited lastSweep s).state := by
  unfold rebuildAccountBody
  split_ifs with _ _ bad
  · exact refuse_quiet s _
  · exact refuse_quiet s _
  · exact refuse_quiet s _
  push Not at bad
  obtain ⟨valid, balanced⟩ := bad
  dsimp only
  rw [setLife_setAccount]
  refine Quiet.trans (Quiet.setAccount (((modifyAccount_quiet id).trans (rebuiltRefill_quiet _ _)).trans
    (setPair_quiet (tagsWf_markPair LifeState.noConfusion))) fun _ => ?_)
    (mapBound_quiet fun _ _ => follows_of_fields rfl rfl rfl rfl rfl)
  exact limitsWf_of_valid (Bool.eq_true_of_not_eq_false valid) balanced

theorem nextDamagedBody_quiet : Quiet s (nextDamagedBody slot s).state := by
  unfold nextDamagedBody
  split
  · exact refuse_quiet s _
  · exact .refl s

end Integrity

end Sys2Proof.Proofs.Invariants
end

section
/-! The relations of Safety.lean from state to state: `Keeps` says that each of them is kept. Every quiet operation keeps
them; here stand the operations that are not quiet, up to each row of the table and the step. -/

namespace Sys2Proof.Proofs.Invariants

open Sys2Proof.Machine Sys2Proof.Laws Sys2Proof.Proofs.Checks Sys2Proof.Proofs.PermitEvaluation

/-- Each relation that holds of `s` holds of `t`. -/
structure Keeps (s t : State) : Prop where
  stack : s.stackWf → t.stackWf
  permits : s.permitWf → t.permitWf
  uses : s.usesWf → t.usesWf
  tags : s.tagsWf → t.tagsWf
  limits : s.limitsWf → t.limitsWf
  holds : s.holdsWf → t.holdsWf
  sweep : s.sweep.wf → t.sweep.wf
  supply : s.supplyWf → t.supplyWf

theorem Keeps.refl (s : State) : Keeps s s := ⟨id, id, id, id, id, id, id, id⟩

theorem Keeps.trans {s t u : State} (h : Keeps s t) (k : Keeps t u) : Keeps s u :=
  ⟨k.stack ∘ h.stack, k.permits ∘ h.permits, k.uses ∘ h.uses, k.tags ∘ h.tags, k.limits ∘ h.limits, k.holds ∘ h.holds,
    k.sweep ∘ h.sweep, k.supply ∘ h.supply⟩

/-! The channels of a table counted. -/

section Count

variable {s t : State} {p : Channel → Bool}

theorem channels_toList (s : State) : s.channels.toList = allChannels.map s.channel := by
  refine List.ext_getElem (by simp [allChannels]) fun n _ h => ?_
  simp [allChannels, State.channel, Vector.get_eq_getElem]

theorem countP_channels : s.channels.toList.countP p = allChannels.countP (fun c => p (s.channel c)) := by
  rw [channels_toList, List.countP_map]
  rfl

theorem countP_channels_congr (h : ∀ c, p (t.channel c) = p (s.channel c)) :
    t.channels.toList.countP p = s.channels.toList.countP p := by
  rw [countP_channels, countP_channels]
  exact List.countP_congr fun c _ => by rw [h c]

theorem names_of_binding {a b : Channel} (h : SameBinding a b) (u : TariffIdx) : b.names u = a.names u := by
  simp [Channel.names, h.bound, h.importTariff, h.exportTariff]

/-- The uses counts stand while every channel keeps its binding. -/
theorem usesWf_of_binding (tariffs : t.tariffs = s.tariffs) (h : ∀ c, SameBinding (s.channel c) (t.channel c))
    (wf : s.usesWf) : t.usesWf := by
  intro u
  rw [countP_channels_congr fun c => names_of_binding (h c) u, ← wf u]
  simp [State.tariff, tariffs]

end Count

/-! Quiet operations keep the relations while the part has VDD. -/

section Phases

variable {s : State}

theorem supplyWf_of_run (run : s.phase = .run) :
    s.supplyWf ↔ s.retention = true ∧ s.checkPosition ≤ 256 ∧ s.divider < Config.refckPerSecond := by
  simp [State.supplyWf, run]

theorem powered_iff : s.powered = true ↔ s.phase = .run ∨ s.phase = .starting := by
  simp [State.powered]

theorem not_powered (h : s.phase = .retain ∨ s.phase = .off) : ¬s.powered = true := by
  rcases h with h | h <;> simp [State.powered, h]

theorem permitWf_of_follows {t : State} (phase : t.phase = s.phase) (cause : t.startCause = s.startCause)
    (follows : ∀ c, Follows s.noticesLive (s.channel c) (t.channel c)) (wf : s.permitWf) : t.permitWf := by
  obtain ⟨off, standing, held⟩ := wf
  refine ⟨fun c => (follows c).off (off c), fun run c => ?_, fun starting cold c => ?_⟩
  · rw [phase] at run
    exact (follows c).standing (noticesLive_of_run run) (standing run c)
  · have unbound : (s.channel c).bound = false := by
      simp [Channel.bound, held (phase ▸ starting) (cause ▸ cold) c]
    rw [← (follows c).bound] at unbound
    simpa [Channel.bound] using unbound

theorem Quiet.keeps {t : State} (powered : s.powered = true) (q : Quiet s t) : Keeps s t where
  stack := by
    unfold State.stackWf
    rw [q.outside.stack]
    exact id
  permits := permitWf_of_follows q.outside.phase q.outside.startCause q.channels
  uses := usesWf_of_binding q.outside.tariffs fun c => (q.channels c).toSameBinding
  tags := q.tags
  limits := fun wf j => q.limits j (wf j)
  holds := fun wf h => q.holds h (wf h)
  sweep := by
    rw [q.outside.sweep]
    exact id
  supply := by
    intro wf
    have o := q.outside
    rcases powered_iff.mp powered with run | starting
    · rw [supplyWf_of_run run] at wf
      rwa [supplyWf_of_run (o.phase.trans run), o.retention, o.checkPosition, o.divider]
    · obtain ⟨mark, position, divider, emptied, -⟩ := wf
      obtain ⟨stack, enable, sweep, expiry, channels⟩ := emptied starting
      have notLive : s.noticesLive = false := by simp [State.noticesLive, starting]
      refine ⟨?_, ?_, ?_, fun _ => ⟨?_, ?_, ?_, ?_, fun c => ?_⟩, fun retain => ?_⟩
      · rwa [o.phase, o.retention]
      · rwa [o.checkPosition]
      · rwa [o.divider]
      · rwa [o.stack]
      · rwa [o.globalEnable]
      · rwa [o.sweep]
      · rwa [o.expiryRequests]
      · obtain ⟨requests, parked⟩ := channels c
        exact ⟨((q.channels c).requests notLive parked).trans requests, fun live => parked ((q.channels c).parked notLive live)⟩
      · rw [o.phase, starting] at retain
        cases retain

theorem Quiet.keeps_run {t : State} (run : s.phase = .run) (q : Quiet s t) : Keeps s t :=
  q.keeps (powered_iff.mpr (.inl run))

/-! Fields that no relation speaks of, and those it speaks of in RUN. -/

theorem port_keeps (s : State) (p : PortState) (r : Option ReplayEntry) : Keeps s { s with port := p, replay := r } :=
  ⟨id, id, id, id, id, id, id, id⟩

theorem readied_keeps (s : State) (frame : List Byte) (st : Status) (result : List Byte) :
    Keeps s (s.readied frame st result) := port_keeps s _ _

theorem device_keeps (s : State) (n : NoticeRec) : Keeps s { s with device := n } := ⟨id, id, id, id, id, id, id, id⟩

theorem faults_keeps (s : State) (f : FaultRec) : Keeps s { s with faults := f } := ⟨id, id, id, id, id, id, id, id⟩

theorem supplyWf_in_run {t : State} (run : s.phase = .run) (phase : t.phase = .run) (retention : t.retention = s.retention)
    (position : t.checkPosition = s.checkPosition)
    (divider : s.divider < Config.refckPerSecond → t.divider < Config.refckPerSecond) (wf : s.supplyWf) : t.supplyWf := by
  rw [supplyWf_of_run run] at wf
  rw [supplyWf_of_run phase, retention, position]
  exact ⟨wf.1, wf.2.1, divider wf.2.2⟩

/-- In RUN the requests issued and the global enable are free; the stack, the sweep record and the divider keep what is
said of each alone. -/
theorem control_keeps (run : s.phase = .run) {requests : List Handle} {enable : Bool} {w : Sweep} {l : List StackEntry}
    {n choice : Nat} (sweep : s.sweep.wf → w.wf) (stack : s.stackWf → ({ s with stack := l } : State).stackWf)
    (below : s.divider < Config.refckPerSecond → n < Config.refckPerSecond) :
    Keeps s { s with
      expiryRequests := requests, globalEnable := enable, sweep := w, stack := l, divider := n, choice := choice } where
  stack := stack
  permits := id
  uses := id
  tags := id
  limits := id
  holds := id
  sweep := sweep
  supply := supplyWf_in_run run run rfl rfl below

end Phases

/-! The service stack (R131, R135, R136, R138). -/

section Stack

variable {s : State}

/-- Levels that strictly fall from the top to at least 1 are no more than the top level. -/
theorem length_le_level {e : StackEntry} {l : List StackEntry}
    (falling : (e :: l).Pairwise (fun upper lower => lower.level < upper.level)) (low : ∀ x ∈ e :: l, 1 ≤ x.level) :
    (e :: l).length ≤ e.level := by
  induction l generalizing e with
  | nil => exact low e (List.mem_singleton_self e)
  | cons x l ih =>
    obtain ⟨above, rest⟩ := List.pairwise_cons.mp falling
    have tail := ih rest fun y hy => low y (List.mem_cons_of_mem e hy)
    have top := above x List.mem_cons_self
    simp only [List.length_cons] at tail ⊢
    omega

/-- An entry above the current level may be pushed (R135, R136). -/
theorem stackWf_push {e : StackEntry} (above : s.currentLevel < e.level) (high : e.level ≤ 16) (wf : s.stackWf) :
    ({ s with stack := e :: s.stack } : State).stackWf := by
  obtain ⟨-, falling, range⟩ := wf
  have above_all : ∀ x ∈ s.stack, x.level < e.level := by
    intro x hx
    cases hs : s.stack with
    | nil => simp [hs] at hx
    | cons y l =>
      rw [Arbitration.currentLevel_cons hs] at above
      rw [hs] at hx falling
      rcases List.mem_cons.mp hx with rfl | old
      · exact above
      · have := (List.pairwise_cons.mp falling).1 x old
        omega
  have all : ∀ x ∈ e :: s.stack, 1 ≤ x.level ∧ x.level ≤ 16 := by
    intro x hx
    rcases List.mem_cons.mp hx with rfl | old
    · exact ⟨by omega, high⟩
    · exact range x old
  have sorted := List.pairwise_cons.mpr ⟨above_all, falling⟩
  exact ⟨(length_le_level sorted fun x hx => (all x hx).1).trans high, sorted, all⟩

theorem stackWf_pop {e : StackEntry} {rest : List StackEntry} (hs : s.stack = e :: rest) (wf : s.stackWf) :
    ({ s with stack := rest } : State).stackWf := by
  unfold State.stackWf at wf ⊢
  rw [hs] at wf
  obtain ⟨depth, falling, range⟩ := wf
  refine ⟨?_, (List.pairwise_cons.mp falling).2, fun x hx => range x (List.mem_cons_of_mem e hx)⟩
  simp only [List.length_cons] at depth ⊢
  omega

end Stack

end Sys2Proof.Proofs.Invariants
end

section
/-! The blocks that are not quiet: those that change the uses counts of tariffs, the sweep, the notices, the stack, and ERASE
TABLES; and the tables at their cold values. -/

namespace Sys2Proof.Proofs.Invariants

open Sys2Proof.Machine Sys2Proof.Laws Sys2Proof.Proofs.Checks Sys2Proof.Proofs.PermitEvaluation

/-! The tables at their cold values (R157, R158). -/

/-- Every table but the device record is at its cold values. -/
structure IsCold (t : State) : Prop where
  account : ∀ i, t.account i = .zero
  pair : ∀ i, t.pair i = none
  tariff : ∀ u, t.tariff u = .zero
  channel : ∀ c, t.channel c = .zero
  hold : ∀ h, t.hold h = .zero
  expiryRequests : t.expiryRequests = []
  sweep : t.sweep = .zero
  globalEnable : t.globalEnable = false
  stack : t.stack = []
  faults : t.faults = .zero

section Cold

variable {s t : State}

theorem coldTables_cold (s : State) : IsCold s.coldTables :=
  ⟨get_replicate _, get_replicate _, get_replicate _, get_replicate _, get_replicate _, rfl, rfl, rfl, rfl, rfl⟩

theorem reset_cold : IsCold State.reset :=
  ⟨get_replicate _, get_replicate _, get_replicate _, get_replicate _, get_replicate _, rfl, rfl, rfl, rfl, rfl⟩

theorem IsCold.stackWf (cold : IsCold t) : t.stackWf := by
  simp [State.stackWf, cold.stack]

theorem IsCold.permitWf (cold : IsCold t) : t.permitWf := by
  simp [State.permitWf, cold.channel, Channel.zero]

theorem IsCold.usesWf (cold : IsCold t) : t.usesWf := by
  intro u
  rw [cold.tariff, countP_channels, eq_comm]
  exact List.countP_eq_zero.mpr fun c _ => by simp [cold.channel, Channel.zero, Channel.names, Channel.bound]

theorem IsCold.tagsWf (cold : IsCold t) : t.tagsWf := by
  simp [State.tagsWf, cold.pair]

theorem IsCold.limitsWf (cold : IsCold t) : t.limitsWf := fun i => cold.account i ▸ limitsWf_zero

theorem IsCold.holdsWf (cold : IsCold t) : t.holdsWf := fun h => by
  simp [cold.hold, Hold.wf, Hold.zero]

theorem IsCold.sweepWf (cold : IsCold t) : t.sweep.wf := by
  simp [cold.sweep, Sweep.wf, Sweep.zero]

/-- With the tables cold no phase leaves anything standing. -/
theorem IsCold.supplyWf (cold : IsCold t) (mark : t.phase = .off ↔ t.retention = false) (position : t.checkPosition ≤ 256)
    (divider : t.divider < Config.refckPerSecond) : t.supplyWf := by
  refine ⟨mark, position, divider, fun _ => ⟨cold.stack, cold.globalEnable, ?_, cold.expiryRequests, fun c => ?_⟩,
    fun _ => ⟨?_, cold.expiryRequests, fun c => ?_⟩⟩
  · simp [cold.sweep, Sweep.zero]
  · simp [cold.channel, Channel.zero]
  · simp [cold.sweep, Sweep.zero]
  · simp [cold.channel, Channel.zero]

theorem IsCold.keeps (cold : IsCold t) (supply : s.supplyWf → t.supplyWf) : Keeps s t :=
  ⟨fun _ => cold.stackWf, fun _ => cold.permitWf, fun _ => cold.usesWf, fun _ => cold.tagsWf, fun _ => cold.limitsWf,
    fun _ => cold.holdsWf, fun _ => cold.sweepWf, supply⟩

end Cold

/-! The checks before a command's own. -/

section Guards

variable {s : State}

theorem withRecord_keeps (run : s.phase = .run) {i : Slot} {k : Account → Reply}
    (h : s.sound i → Keeps s (k (s.account i)).state) : Keeps s (withRecord i s k).state := by
  obtain free | damaged | sound | mismatched := lookup_cases s i
  · rw [withRecord_free free]; exact .refl s
  · rw [withRecord_damaged damaged]; exact .refl s
  · rw [withRecord_sound sound]; exact h sound
  · rw [withRecord_mismatched mismatched]; exact (damage_quiet i).keeps_run run

theorem withLive_keeps (run : s.phase = .run) {i : Slot} {k : Account → Reply}
    (h : s.sound i → Keeps s (k (s.account i)).state) : Keeps s (withLive i s k).state :=
  withRecord_keeps run fun sound => by
    split_ifs
    · exact h sound
    · exact .refl s

theorem withBound_keeps {b : Byte} {k : Chan → Reply} (h : ∀ c, (s.channel c).bound = true → Keeps s (k c).state) :
    Keeps s (withBound b s k).state := by
  unfold withBound withChannel
  split
  · exact .refl s
  · dsimp only
    split_ifs with bound
    · exact h _ bound
    · exact .refl s

end Guards

/-! The uses counts of tariffs (R32). -/

section Uses

variable {s : State} {c d : Chan}

theorem countP_setChannel (p : Channel → Bool) (ch : Channel) :
    (s.setChannel c ch).channels.toList.countP p + (if p (s.channel c) then 1 else 0) =
      s.channels.toList.countP p + if p ch then 1 else 0 := by
  have set := Vector.countP_set (p := p) (xs := s.channels) (a := ch) c.isLt
  have counted : p (s.channel c) = true → 0 < s.channels.toList.countP p := fun h =>
    List.countP_pos_iff.mpr ⟨s.channel c, by simp [State.channel, Vector.get_eq_getElem], h⟩
  have here : s.channels[c.val] = s.channel c := by simp [State.channel, Vector.get_eq_getElem]
  rw [here, ← Vector.countP_toList, ← Vector.countP_toList] at set
  show (s.channels.set c.val ch c.isLt).toList.countP p + _ = _
  by_cases hp : p (s.channel c) = true
  · have := counted hp
    rw [set, if_pos hp]
    omega
  · rw [set, if_neg hp]
    omega

theorem setTariff_keeps {u : TariffIdx} {e : Tariff} (h : e.uses = (s.tariff u).uses) : Keeps s (s.setTariff u e) where
  stack := id
  permits := id
  uses := fun wf v => by
    rw [setTariff_tariff]
    split_ifs with eq
    · subst eq; exact h.trans (wf u)
    · exact wf v
  tags := id
  limits := id
  holds := id
  sweep := id
  supply := id

theorem changeUses_eq (s : State) (imp exp : TariffIdx) (f : Nat → Nat) :
    ∃ tariffs, s.changeUses imp exp f = { s with tariffs := tariffs } := by
  unfold State.changeUses
  dsimp only
  split_ifs
  · exact ⟨_, rfl⟩
  · exact ⟨_, rfl⟩

theorem changeUses_channel (s : State) (imp exp : TariffIdx) (f : Nat → Nat) (c : Chan) :
    (s.changeUses imp exp f).channel c = s.channel c := by
  obtain ⟨tariffs, h⟩ := changeUses_eq s imp exp f
  rw [h]
  rfl

/-- An entry that a binding names twice is counted once. -/
theorem changeUses_uses (s : State) (imp exp : TariffIdx) (f : Nat → Nat) (u : TariffIdx) :
    ((s.changeUses imp exp f).tariff u).uses = if u = imp ∨ u = exp then f (s.tariff u).uses else (s.tariff u).uses := by
  unfold State.changeUses State.modifyTariff
  dsimp only
  by_cases same : exp = imp
  · subst same
    rw [if_pos rfl, setTariff_tariff]
    by_cases hu : exp = u
    · simp [hu]
    · simp [hu, Ne.symm hu]
  · rw [if_neg same, setTariff_tariff]
    by_cases hexp : exp = u
    · subst hexp
      simp [setTariff_tariff, Ne.symm same]
    · by_cases himp : imp = u
      · subst himp
        simp [same]
      · simp [setTariff_tariff, hexp, himp, Ne.symm hexp, Ne.symm himp]

/-- A channel is bound or unbound in RUN, and the uses counts follow it. -/
theorem rebind_keeps (run : s.phase = .run) {imp exp : TariffIdx} {f : Nat → Nat} {ch : Channel}
    (standing : ch.permit ≠ .off → ch.state = .live)
    (uses : ∀ u k, ((s.channel c).names u = true → 1 ≤ k) →
      (if u = imp ∨ u = exp then f k else k) + (if (s.channel c).names u then 1 else 0) = k + if ch.names u then 1 else 0) :
    Keeps s ((s.changeUses imp exp f).setChannel c ch) := by
  have exact_uses : s.usesWf → ((s.changeUses imp exp f).setChannel c ch).usesWf := by
    intro wf u
    have counted := countP_setChannel (s := s.changeUses imp exp f) (c := c) (Channel.names u) ch
    have before := uses u (s.tariff u).uses fun named => by
      rw [wf u]
      exact List.countP_pos_iff.mpr ⟨s.channel c, by simp [State.channel, Vector.get_eq_getElem], named⟩
    have listed : (s.changeUses imp exp f).channels = s.channels := by
      obtain ⟨tariffs, h⟩ := changeUses_eq s imp exp f
      rw [h]
    rw [changeUses_channel, listed, ← wf u] at counted
    rw [setChannel_tariff, changeUses_uses]
    omega
  obtain ⟨tariffs, h⟩ := changeUses_eq s imp exp f
  rw [h] at exact_uses ⊢
  refine ⟨id, fun wf => ?_, exact_uses, id, id, id, id, supplyWf_in_run run run rfl rfl id⟩
  obtain ⟨off, live, -⟩ := wf
  refine ⟨fun e unbound => ?_, fun _ e standing_e => ?_, fun starting => ?_⟩
  · rw [setChannel_channel] at unbound ⊢
    split_ifs at unbound ⊢ with eq
    · by_contra stands
      exact absurd ((standing stands).symm.trans unbound) ChanState.noConfusion
    · exact off e unbound
  · rw [setChannel_channel] at standing_e ⊢
    split_ifs at standing_e ⊢ with eq
    · exact standing standing_e
    · exact live run e standing_e
  · exact absurd (run.symm.trans starting) Phase.noConfusion

theorem bind_state (slot : Slot) (imp exp : TariffIdx) (live empty : Bool) (ch : Channel) :
    (Channel.bind slot imp exp live empty ch).state = if live then .live else .parked := evaluate_state _

theorem bind_names (slot : Slot) (imp exp : TariffIdx) (live empty : Bool) (ch : Channel) (u : TariffIdx) :
    (Channel.bind slot imp exp live empty ch).names u = (decide (imp = u) || decide (exp = u)) := by
  have bound : (Channel.bind slot imp exp live empty ch).bound = true := by
    rw [Checks.bound_iff, bind_state]
    cases live <;> simp
  have himp : (Channel.bind slot imp exp live empty ch).importTariff = imp := evaluate_importTariff _
  have hexp : (Channel.bind slot imp exp live empty ch).exportTariff = exp := evaluate_exportTariff _
  simp [Channel.names, bound, himp, hexp]

theorem live_of_bind_standing {slot : Slot} {imp exp : TariffIdx} {live empty : Bool} {ch : Channel}
    (standing : (Channel.bind slot imp exp live empty ch).permit ≠ .off) :
    (Channel.bind slot imp exp live empty ch).state = .live := by
  refine (evaluate_state _).trans (live_of_evaluate_standing ?_ standing)
  cases live <;> simp

theorem names_of_unbound {ch : Channel} (h : ch.bound = false) (u : TariffIdx) : ch.names u = false := by
  simp [Channel.names, h]

theorem bindUses_keeps (run : s.phase = .run) (unbound : (s.channel c).bound = false) {slot : Slot} {imp exp : TariffIdx}
    {live empty : Bool} :
    Keeps s ((s.changeUses imp exp (· + 1)).modifyChannel c (Channel.bind slot imp exp live empty)) := by
  unfold State.modifyChannel
  refine rebind_keeps run (fun stands => live_of_bind_standing stands) fun u k _ => ?_
  rw [names_of_unbound unbound u, bind_names]
  by_cases hi : imp = u <;> by_cases he : exp = u <;> simp [hi, he, eq_comm]

theorem bindChannelBody_keeps (run : s.phase = .run) (channel : Byte) (slot : Slot) (imp exp : Byte) :
    Keeps s (bindChannelBody channel slot imp exp s).state :=
  withLive_keeps run fun _ => by
    split
    · next c timp texp _ _ _ =>
      split_ifs with kind bound
      · exact .refl s
      · exact .refl s
      have counted : Quiet s (s.modifyAccount slot fun a => { a with bindingCount := a.bindingCount + 1 }) :=
        modifyAccount_quiet id
      refine (counted.keeps_run run).trans ?_
      exact bindUses_keeps (s := s.modifyAccount slot fun a => { a with bindingCount := a.bindingCount + 1 }) run (Bool.eq_false_of_not_eq_true bound)
    · exact .refl s

theorem changeUses_phase (s : State) (imp exp : TariffIdx) (f : Nat → Nat) : (s.changeUses imp exp f).phase = s.phase := by
  obtain ⟨tariffs, h⟩ := changeUses_eq s imp exp f
  rw [h]

theorem unbindChannel_phase (s : State) (c : Chan) : (s.unbindChannel c).phase = s.phase :=
  (changeUses_phase _ _ _ _).trans (stopDrawing_outside s c).phase

theorem stopDrawing_channel (s : State) (c d : Chan) :
    (s.stopDrawing c).channel d = if c = d then { s.channel d with drawing := none } else s.channel d := by
  unfold State.stopDrawing State.modifyChannel
  cases s.drawnHold c with
  | none =>
    rw [setChannel_channel]
    split_ifs with e
    · subst e; rfl
    · rfl
  | some h =>
    rw [setChannel_channel]
    split_ifs with e
    · subst e; rfl
    · rfl

theorem unbindChannel_channel_ne (s : State) (h : c ≠ d) : (s.unbindChannel c).channel d = s.channel d := by
  unfold State.unbindChannel State.modifyChannel
  rw [setChannel_channel, if_neg h, changeUses_channel, stopDrawing_channel, if_neg h]

theorem unbindChannel_keeps (run : s.phase = .run) (bound : (s.channel c).bound = true) : Keeps s (s.unbindChannel c) := by
  have stopped : Quiet s (s.stopDrawing c) := stopDrawing_quiet c
  refine (stopped.keeps_run run).trans ?_
  unfold State.unbindChannel State.modifyChannel
  dsimp only
  rw [changeUses_channel]
  refine rebind_keeps (stopped.outside.phase.trans run) (fun stands => absurd rfl stands) fun u k named => ?_
  have gone : ((s.stopDrawing c).channel c).unbind.names u = false := names_of_unbound rfl u
  have was : ((s.stopDrawing c).channel c).names u =
      (decide ((s.channel c).importTariff = u) || decide ((s.channel c).exportTariff = u)) := by
    rw [stopDrawing_channel, if_pos rfl]
    simp only [Channel.names]
    rw [show Channel.bound { s.channel c with drawing := none } = true from bound, Bool.true_and]
  rw [gone]
  rw [was] at named ⊢
  by_cases h : (s.channel c).importTariff = u ∨ (s.channel c).exportTariff = u
  · have listed : (decide ((s.channel c).importTariff = u) || decide ((s.channel c).exportTariff = u)) = true := by
      simpa using h
    have positive := named listed
    rw [if_pos (h.imp Eq.symm Eq.symm), if_pos listed, if_neg Bool.false_ne_true]
    omega
  · have unlisted : (decide ((s.channel c).importTariff = u) || decide ((s.channel c).exportTariff = u)) = false := by
      simpa using h
    rw [if_neg fun e => h (e.imp Eq.symm Eq.symm), unlisted]

/-- A withdrawal changes the requests and the deferred quantities alone (R58). -/
theorem withdraw_follows (ch : Channel) : Follows live { ch with requests := [] } ch.withdraw := by
  unfold Channel.withdraw
  generalize ch.requests = l
  generalize ({ ch with requests := [] } : Channel) = start
  induction l generalizing start with
  | nil => exact .refl _ start
  | cons r l ih => exact (defer_follows start r.flow r.quantity).trans (ih _)

theorem requests_follows (ch : Channel) (l : List UsageRequest) : Follows true ch { ch with requests := l } :=
  ⟨⟨sameBinding_of_fields rfl rfl rfl, id, fun hl => Bool.noConfusion hl, fun _ => id⟩, fun _ => id⟩

theorem withdraw_quiet (run : s.phase = .run) : Quiet s (s.modifyChannel c Channel.withdraw) :=
  modifyChannel_quiet (by
    rw [noticesLive_of_run run]
    exact (requests_follows _ []).trans (withdraw_follows _))

theorem bound_after {t : State} (q : Quiet s t) (bound : (s.channel c).bound = true) : (t.channel c).bound = true :=
  (q.channels c).bound.trans bound

theorem unbindChannelBody_keeps (run : s.phase = .run) (channel : Byte) : Keeps s (unbindChannelBody channel s).state :=
  withBound_keeps fun c bound => by
    have read : Quiet s (s.readRecord (s.channel c).slot).1 := readRecord_quiet _
    dsimp only
    split
    · next s1 hr =>
      rw [hr] at read
      have withdrawn := read.trans (withdraw_quiet (c := c) (read.outside.phase.trans run))
      have gone := (withdrawn.keeps_run run).trans
        (unbindChannel_keeps (withdrawn.outside.phase.trans run) (bound_after withdrawn bound))
      refine gone.trans (Quiet.keeps_run ((unbindChannel_phase _ c).trans (withdrawn.outside.phase.trans run)) ?_)
      exact answer_quiet (modifyAccount_quiet id)
    · next s1 hr => rw [hr] at read; exact read.keeps_run run
    · next s1 a hr =>
      rw [hr] at read
      have withdrawn := read.trans (withdraw_quiet (c := c) (read.outside.phase.trans run))
      have counted := (withdrawn.trans (chargeBoth_quiet c)).trans
        (modifyAccount_quiet (i := (s.channel c).slot) (f := fun a => { a with bindingCount := a.bindingCount - 1 }) id)
      exact (counted.keeps_run run).trans (unbindChannel_keeps (counted.outside.phase.trans run) (bound_after counted bound))

/-- Step 1 of DISCARD ACCOUNT over distinct bound channels (R152). -/
theorem foldl_discardChannel_keeps (l : List Chan) (distinct : l.Nodup) (s : State) (run : s.phase = .run)
    (bound : ∀ c ∈ l, (s.channel c).bound = true) :
    Keeps s (l.foldl State.discardChannel s) ∧ (l.foldl State.discardChannel s).phase = .run := by
  induction l generalizing s with
  | nil => exact ⟨.refl s, run⟩
  | cons c l ih =>
    obtain ⟨fresh, rest⟩ := List.nodup_cons.mp distinct
    have withdrawn : Quiet s (s.modifyChannel c Channel.withdraw) := withdraw_quiet run
    have phase := withdrawn.outside.phase.trans run
    have first : Keeps s (s.discardChannel c) := (withdrawn.keeps_run run).trans
      (unbindChannel_keeps phase (bound_after withdrawn (bound c List.mem_cons_self)))
    have others : ∀ d ∈ l, ((s.discardChannel c).channel d).bound = true := by
      intro d hd
      have ne : c ≠ d := fun e => fresh (e ▸ hd)
      have same : (s.discardChannel c).channel d = s.channel d := by
        rw [State.discardChannel, unbindChannel_channel_ne _ ne, State.modifyChannel, setChannel_channel, if_neg ne]
      rw [same]
      exact bound d (List.mem_cons_of_mem c hd)
    obtain ⟨keeps, phase'⟩ := ih rest (s.discardChannel c) ((unbindChannel_phase _ c).trans phase) others
    exact ⟨first.trans keeps, phase'⟩

theorem discardOwnRefill_quiet (i : Slot) : Quiet s (s.discardOwnRefill i) := by
  unfold State.discardOwnRefill
  split
  · exact .refl s
  have read := (modifyAccount_quiet (s := s) (i := i) (f := fun a => { a with refill := none }) id).trans
    (readPool_quiet (by assumption : RefillSpec).pool)
  dsimp only
  split_ifs
  · exact read.trans (lowerDependents_quiet _)
  · exact read

theorem removeNaming_quiet (s : State) (j : Slot) : Quiet s (s.removeNaming j) := by
  have read : Quiet s (s.readRecord j).1 := readRecord_quiet j
  unfold State.removeNaming
  split
  · next h => rw [h] at read; exact (read.trans (modifyAccount_quiet id)).trans (raiseAccount_quiet _ _)
  · next h => rw [h] at read; exact read.trans (modifyAccount_quiet id)
  · next h => rw [h] at read; exact read

theorem discardAccountBody_keeps (run : s.phase = .run) (slot : Slot) : Keeps s (discardAccountBody slot s).state := by
  unfold discardAccountBody
  split_ifs
  · exact .refl s
  · exact .refl s
  dsimp only
  have bound : ∀ c ∈ s.boundChannels slot, (s.channel c).bound = true := fun c hc =>
    boundTo_bound (List.mem_filter.mp hc).2
  obtain ⟨unbound, phase⟩ :=
    foldl_discardChannel_keeps (s.boundChannels slot) ((List.nodup_finRange 8).filter _) s run bound
  refine unbound.trans (Quiet.keeps_run phase ?_)
  exact (((discardOwnRefill_quiet slot).trans (foldl_quiet removeNaming_quiet _ _)).trans
    (setPair_quiet tagsWf_setPair_none)).trans (setAccount_quiet fun _ => limitsWf_zero)

theorem writeTariffBody_keeps (index : Byte) (rate : BitVec 16) (shift mode : Byte) :
    Keeps s (writeTariffBody index rate shift mode s).state := by
  unfold writeTariffBody
  split
  · split_ifs
    · exact .refl s
    · exact setTariff_keeps rfl
  · exact .refl s

theorem readTariffBody_keeps (index : Byte) : Keeps s (readTariffBody index s).state := by
  unfold readTariffBody
  split
  · exact .refl s
  · exact .refl s

end Uses

/-! The Sweep Engine (R116, R122, R125). -/

section Sweeps

variable {s : State}

theorem startSweepBody_keeps (run : s.phase = .run) (number dir : Byte) (amount : BitVec 32) (selector start : Byte) :
    Keeps s (startSweepBody number dir amount selector start s).state := by
  unfold startSweepBody
  split_ifs with _ bad
  · exact .refl s
  · exact .refl s
  split
  · refine control_keeps run (fun _ => ?_) id id
    have := start.isLt
    have := number.isLt
    refine ⟨?_, ?_, ?_, ?_, fun _ => ⟨?_, ?_, ?_, rfl, rfl⟩⟩ <;> dsimp only <;> omega
  · exact .refl s

theorem idle_wf {w v : Sweep} (idle : v.state = .idle) (cursor : v.cursor = w.cursor) (changed : v.changed = w.changed)
    (number : v.number = w.number) (amount : v.amount = w.amount) (wf : w.wf) : v.wf := by
  obtain ⟨h1, h2, h3, h4, -⟩ := wf
  refine ⟨cursor ▸ h1, cursor ▸ changed ▸ h2, number ▸ h3, amount ▸ h4, fun running => ?_⟩
  rw [idle] at running
  cases running

theorem stopSweepBody_keeps (run : s.phase = .run) : Keeps s (stopSweepBody s).state := by
  unfold stopSweepBody
  split_ifs
  · have stopped : Keeps s { s with sweep := { s.sweep with state := .idle, ending := .stopped } } :=
      control_keeps run (idle_wf rfl rfl rfl rfl rfl) id id
    exact stopped.trans (device_keeps _ _)
  · exact .refl s

end Sweeps

/-! The Notice Unit (R134 to R144). -/

section Notices

variable {s : State}

theorem setNoticeOf_keeps (run : s.phase = .run) (src : Source) (n : NoticeRec) : Keeps s (s.setNoticeOf src n) := by
  cases src with
  | device => exact device_keeps s n
  | channel c =>
    have set : Quiet s (s.modifyChannel c fun ch => { ch with notice := n }) :=
      modifyChannel_quiet (follows_of_fields rfl rfl rfl rfl rfl)
    exact set.keeps_run run
  | account i =>
    have set : Quiet s (s.modifyAccount i fun a => { a with notice := n }) := modifyAccount_quiet id
    exact set.keeps_run run
  | fault => exact .refl s

theorem withSource_keeps (run : s.phase = .run) {src : Source} {k : Reply} (h : Keeps s k.state) :
    Keeps s (withSource src s k).state := by
  cases src with
  | account i => exact withRecord_keeps run fun _ => h
  | device => exact h
  | channel c => exact h
  | fault => exact h

theorem setNoticeOn_keeps (run : s.phase = .run) (src : Source) (level group : Byte) (mask : BitVec 16) (enable : Byte) :
    Keeps s (setNoticeOn src level group mask enable s).state := by
  unfold setNoticeOn
  split
  · exact .refl s
  · split_ifs
    · exact .refl s
    · exact setNoticeOf_keeps run src _

theorem setNoticeBody_keeps (run : s.phase = .run) (source : BitVec 16) (level group : Byte) (mask : BitVec 16)
    (enable : Byte) : Keeps s (setNoticeBody source level group mask enable s).state := by
  unfold setNoticeBody
  split
  · exact .refl s
  · exact .refl s
  · exact withSource_keeps run (setNoticeOn_keeps run _ level group mask enable)

theorem setEnableBody_keeps (run : s.phase = .run) (on : Bool) : Keeps s (setEnableBody on s).state :=
  control_keeps run id id id

theorem readPendingBody_keeps (run : s.phase = .run) (source : BitVec 16) : Keeps s (readPendingBody source s).state := by
  unfold readPendingBody
  split
  · exact .refl s
  · exact .refl s
  · exact withSource_keeps run (.refl s)

theorem clearSource_keeps (run : s.phase = .run) (src : Source) (causes : BitVec 16) :
    Keeps s (clearSource src causes s).state := by
  unfold clearSource
  exact setNoticeOf_keeps run src _

theorem clearCausesBody_keeps (run : s.phase = .run) (source causes : BitVec 16) :
    Keeps s (clearCausesBody source causes s).state := by
  unfold clearCausesBody
  split
  · exact .refl s
  refine withSource_keeps run ?_
  split_ifs
  · exact .refl s
  split
  · exact faults_keeps s _
  · exact clearSource_keeps run _ causes
  · exact clearSource_keeps run _ causes
  · exact clearSource_keeps run _ causes

theorem handOverFaults_keeps (run : s.phase = .run) (below : s.currentLevel < Config.faultLevel) :
    Keeps s (handOverFaults s).state := by
  have pushed : Keeps s { s with stack := ⟨Config.faultLevel, .fault⟩ :: s.stack } :=
    control_keeps run id (stackWf_push below le_rfl) id
  exact pushed.trans (faults_keeps _ _)

theorem handOverSource_keeps (run : s.phase = .run) {src : Source} (above : s.currentLevel < (s.noticeOf src).level.val) :
    Keeps s (handOverSource src s).state := by
  have pushed : Keeps s { s with stack := ⟨(s.noticeOf src).level.val, src⟩ :: s.stack } :=
    control_keeps run id (stackWf_push above (by have := (s.noticeOf src).level.isLt; dsimp only; omega)) id
  refine pushed.trans ?_
  have set := setNoticeOf_keeps (s := { s with stack := ⟨(s.noticeOf src).level.val, src⟩ :: s.stack }) run src
    { s.noticeOf src with pending := (s.noticeOf src).pending &&& ~~~((s.noticeOf src).pending &&& (s.noticeOf src).mask) }
  cases src <;> exact set

theorem takeNoticeBody_keeps (run : s.phase = .run) : Keeps s (takeNoticeBody s).state := by
  unfold takeNoticeBody
  split_ifs with due
  · exact handOverFaults_keeps run due.2
  split
  · exact .refl s
  next w _ =>
  split_ifs with low
  · exact .refl s
  have above : s.currentLevel < (s.noticeOf w).level.val := Nat.lt_of_not_le low
  split
  · next i _ =>
    have read : Quiet s (s.readRecord i).1 := readRecord_quiet i
    split
    · exact handOverSource_keeps run above
    · next s1 h =>
      rw [h] at read
      refine (read.keeps_run run).trans (handOverFaults_keeps (read.outside.phase.trans run) ?_)
      have stack : s1.stack = s.stack := read.outside.stack
      have level : s1.currentLevel = s.currentLevel := by simp only [State.currentLevel, stack]
      have := (s.noticeOf (.account i)).level.isLt
      rw [level, Config.faultLevel]
      omega
    · next h => rw [h] at read; exact read.keeps_run run
  · exact handOverSource_keeps run above
  · exact handOverSource_keeps run above
  · exact .refl s

theorem endNoticeBody_keeps (run : s.phase = .run) : Keeps s (endNoticeBody s).state := by
  unfold endNoticeBody
  split
  · exact .refl s
  · next h => exact control_keeps run id (stackWf_pop h) id

end Notices

theorem eraseTablesBody_keeps {s : State} (run : s.phase = .run) : Keeps s (eraseTablesBody s).state := by
  have cold := coldTables_cold s
  have erased : IsCold (eraseTablesBody s).state := ⟨cold.account, cold.pair, cold.tariff, cold.channel, cold.hold, rfl, rfl,
    rfl, rfl, rfl⟩
  refine erased.keeps fun wf => erased.supplyWf ?_ (Nat.zero_le _) ((supplyWf_of_run run).mp wf).2.2
  show s.phase = .off ↔ true = false
  simp [run]

end Sys2Proof.Proofs.Invariants
end

section
/-! The rows of the table that are no command of the host: report lines, time, the sweep's step, supplies and starts. -/

namespace Sys2Proof.Proofs.Invariants

open Sys2Proof.Machine Sys2Proof.Laws Sys2Proof.Proofs.Checks Sys2Proof.Proofs.PermitEvaluation

/-! What the rows do to a channel. -/

section ChannelEvents

variable {live : Bool} {ch : Channel}

theorem badFrame_follows (ch : Channel) : Follows live ch ch.badFrame := follows_of_fields rfl rfl rfl rfl rfl

/-- A frame that is taken: outside RUN no request is issued on a channel that is not LIVE (R54). -/
theorem takeReport_follows (seq : Fin 16) (flow : Flow) (q : Nat) (tamper : Bool) (ch : Channel) :
    Follows live ch (ch.takeReport live seq flow q tamper) := by
  have counted : Follows live ch { ch with sync := some seq, framesTaken := ch.framesTaken + 1 } :=
    follows_of_fields rfl rfl rfl rfl rfl
  have reloaded := counted.trans (reloadSilence_follows live _)
  unfold Channel.takeReport
  dsimp only
  generalize ({ ch with sync := some seq, framesTaken := ch.framesTaken + 1 } : Channel).reloadSilence live = r at reloaded ⊢
  have latched : Follows live ch (if tamper = true then ({ r with tamper := true } : Channel).raise Cause.tamper else r) := by
    split_ifs
    · exact reloaded.trans (follows_of_fields rfl rfl rfl rfl rfl)
    · exact reloaded
  generalize (if tamper = true then ({ r with tamper := true } : Channel).raise Cause.tamper else r) = l at latched ⊢
  split_ifs with isLive
  · exact ⟨⟨latched.toSameBinding.trans (sameBinding_of_fields rfl rfl rfl), latched.off, fun _ parked => absurd isLive parked, latched.parked⟩, latched.standing⟩
  · exact latched.trans (defer_follows l flow q)

theorem countGap_follows (d : Fin 16) (ch : Channel) : Follows live ch (ch.countGap d) := by
  unfold Channel.countGap
  split_ifs
  · exact follows_of_fields rfl rfl rfl rfl rfl
  · exact .refl live ch

theorem acceptFrame_follows (seq : Fin 16) (flow : Flow) (q : Nat) (tamper : Bool) (ch : Channel) :
    Follows live ch (ch.acceptFrame live seq flow q tamper) := by
  unfold Channel.acceptFrame
  split_ifs
  · exact follows_of_fields rfl rfl rfl rfl rfl
  split
  · exact takeReport_follows seq flow q tamper ch
  split_ifs
  · have counted : Follows live ch (({ ch with duplicates := satCount ch.duplicates 1 } : Channel).raise Cause.duplicate) :=
      follows_of_fields rfl rfl rfl rfl rfl
    exact counted.trans (reloadSilence_follows live _)
  · exact (countGap_follows _ ch).trans (takeReport_follows seq flow q tamper _)

theorem graceTick_follows (ch : Channel) : Follows live ch ch.graceTick := by
  unfold Channel.graceTick
  split_ifs
  · exact cut_follows ch
  · exact follows_of_fields rfl rfl rfl rfl rfl
  · exact .refl live ch

theorem silenceTick_follows (ch : Channel) : Follows live ch ch.silenceTick := by
  unfold Channel.silenceTick
  split_ifs
  · have silenced : Follows live ch
        (({ ch with silenceCounter := 0, silent := true } : Channel).raise Cause.silent) :=
      follows_of_fields rfl rfl rfl rfl rfl
    exact silenced.trans (evaluate_follows live _)
  · exact follows_of_fields rfl rfl rfl rfl rfl
  · exact .refl live ch

theorem secondTick_follows (first : Bool) (ch : Channel) : Follows live ch (ch.secondTick first) := by
  have graceThenSilence : Follows live ch ch.graceTick.silenceTick := (graceTick_follows ch).trans (silenceTick_follows _)
  unfold Channel.secondTick
  split_ifs
  · exact graceThenSilence
  · exact (silenceTick_follows ch).trans (graceTick_follows _)
  · exact graceThenSilence

end ChannelEvents

/-! Report lines and usage-charge requests. -/

section Lines

variable {s : State}

theorem acceptedFrame_quiet (line : Chan) (lineSeq q0 q1 q2 flags : Byte) :
    Quiet s (s.modifyChannel line (fun ch => { ch with receiver := .hunting }.acceptFrame s.noticesLive (frameSeq lineSeq)
      (frameFlow flags) (leValue [q0, q1, q2]) (frameTamper flags))) := by
  have hunting : Follows s.noticesLive (s.channel line) { s.channel line with receiver := .hunting } :=
    follows_of_fields rfl rfl rfl rfl rfl
  exact modifyChannel_quiet (hunting.trans (acceptFrame_follows _ _ _ _ _))

theorem abandonFrame_keeps (s : State) (line : Chan) : Keeps s (s.abandonFrame line) := by
  unfold State.abandonFrame
  split_ifs with h
  · exact (modifyChannel_quiet (badFrame_follows _)).keeps h.1
  · exact .refl s

theorem deferRequest_quiet (c : Chan) (r : UsageRequest) (park : Bool) : Quiet s (s.deferRequest c r park) := by
  refine modifyChannel_quiet ?_
  split_ifs
  · exact (park_follows _ _).trans (defer_follows _ _ _)
  · exact defer_follows _ _ _

theorem takeRequest_quiet (c : Chan) (r : UsageRequest) : Quiet s (s.takeRequest c r) := by
  have read : Quiet s (s.readRecord (s.channel c).slot).1 := readRecord_quiet _
  unfold State.takeRequest
  split
  · next h =>
    rw [h] at read
    split_ifs
    · exact read.trans (chargeQuantity_quiet c _ _)
    · exact read.trans (deferRequest_quiet c r false)
  · next h => rw [h] at read; exact read.trans (deferRequest_quiet c r true)
  · next h => rw [h] at read; exact read.trans (deferRequest_quiet c r false)

theorem usageCharge_quiet (run : s.phase = .run) (c : Chan) (r : UsageRequest) (rest : List UsageRequest) :
    Quiet s ((s.modifyChannel c (fun ch => { ch with requests := rest })).takeRequest c r) := by
  have taken : Quiet s (s.modifyChannel c (fun ch => { ch with requests := rest })) := modifyChannel_quiet (by
    rw [noticesLive_of_run run]
    exact requests_follows _ rest)
  exact taken.trans (takeRequest_quiet c r)

end Lines

/-! Time. -/

section Time

variable {s : State}

theorem secondsRun_iff : s.secondsRun = true ↔ s.phase = .run ∧ s.refPresent = true := by simp [State.secondsRun]

theorem tick_wf {e : Hold} (wf : e.wf) : e.tick.wf := by
  unfold Hold.tick
  split_ifs with h
  · obtain ⟨free, held, due⟩ := wf
    refine ⟨fun no => absurd (h.1.symm.trans no) Bool.true_eq_false_eq_False, fun yes => ?_, fun last => ?_⟩
    · obtain ⟨low, high, life⟩ := held yes
      exact ⟨low, high, by dsimp only; omega⟩
    · have := of_decide_eq_true last
      dsimp only
      omega
  · exact wf

theorem mapHolds_quiet {f : HoldIdx → Hold → Hold} (hf : ∀ h e, Hold.wf e → (f h e).wf) : Quiet s (s.mapHolds f) where
  outside := mapHolds_outside s f
  limits := fun _ => id
  tags := id
  channels := fun _ => .refl _ _
  holds := fun h wf => by
    rw [mapHolds_hold]
    exact hf h _ wf

theorem mapChannels_quiet {f : Chan → Channel → Channel} (hf : ∀ c ch, Follows s.noticesLive ch (f c ch)) :
    Quiet s (s.mapChannels f) where
  outside := mapChannels_outside s f
  limits := fun _ => id
  tags := id
  channels := fun c => by
    rw [mapChannels_channel]
    exact hf c _
  holds := fun _ => id

theorem second_keeps (s : State) : Keeps s s.second := by
  unfold State.second
  split_ifs with h
  · obtain ⟨run, -⟩ := secondsRun_iff.mp h
    have ticked : Quiet s ((s.mapHolds fun _ e => e.tick).mapChannels fun c ch => ch.secondTick (Config.silenceFirst s.choice c)) :=
      (mapHolds_quiet fun _ _ => tick_wf).trans (mapChannels_quiet fun _ ch => secondTick_follows _ ch)
    exact (ticked.keeps_run run).trans (control_keeps (ticked.outside.phase.trans run) id id fun _ => by decide)
  · exact .refl s

theorem refckPeriod_keeps (s : State) : Keeps s s.refckPeriod := by
  unfold State.refckPeriod
  split_ifs with h below
  · exact control_keeps (secondsRun_iff.mp h).1 id id fun _ => below
  · exact second_keeps s
  · exact .refl s

theorem expire_quiet (h : HoldIdx) : Quiet s (s.expire h) := by
  have read : Quiet s (s.readRecord (s.hold h).slot).1 := readRecord_quiet _
  unfold State.expire
  dsimp only
  split
  · next hr =>
    rw [hr] at read
    exact ((read.trans (freeHold_quiet _ h)).trans (raiseAccount_quiet _ _)).trans (settle_quiet _)
  · next hr => rw [hr] at read; exact read
  · next hr => rw [hr] at read; exact read

theorem requests_keeps (run : s.phase = .run) (l : List Handle) : Keeps s { s with expiryRequests := l } :=
  control_keeps run id id id

theorem holdExpiry_keeps (run : s.phase = .run) (handle : Handle) (l : List Handle) :
    Keeps s (({ s with expiryRequests := l } : State).expire handle.idx) :=
  (requests_keeps run l).trans ((expire_quiet handle.idx).keeps_run run)

end Time

/-! The sweep's step. -/

section Sweeps

variable {s : State}

theorem move_moved (w : Sweep) (a : Account) : Moved a (w.move a) := by
  unfold Sweep.move
  split
  · exact usageDebit_moved _ a
  · exact clampedCredit_moved _ a

/-- A step moves records alone, and counts at most one account. -/
theorem stepSlot_eq (s : State) (i : Slot) :
    ∃ (q : State) (k : Nat), Quiet s q ∧ k ≤ 1 ∧
      s.stepSlot i = { q with sweep := { s.sweep with changed := s.sweep.changed + k } } := by
  have skipped : ∀ q : State, Quiet s q → q = { q with sweep := { s.sweep with changed := s.sweep.changed + 0 } } := by
    intro q hq
    rw [← hq.outside.sweep]
    rfl
  have read : Quiet s (s.readRecord i).1 := readRecord_quiet i
  unfold State.stepSlot
  split
  · next s1 a h =>
    rw [h] at read
    split_ifs
    · have moved := read.trans (((modifyAccount_quiet_of_moved (move_moved s1.sweep (s1.account i))).trans (settle_quiet i)).trans
        (modifyAccount_quiet (i := i) (f := fun a => { a with lastSweep := s1.sweep.number }) id))
      refine ⟨_, 1, moved, le_rfl, ?_⟩
      rw [← moved.outside.sweep]
      rfl
    · exact ⟨s1, 0, read, Nat.zero_le 1, skipped s1 read⟩
  · next s1 h => rw [h] at read; exact ⟨s1, 0, read, Nat.zero_le 1, skipped s1 read⟩
  · next s1 h => rw [h] at read; exact ⟨s1, 0, read, Nat.zero_le 1, skipped s1 read⟩

theorem stepOutstanding_iff :
    s.stepOutstanding = true ↔ s.phase = .run ∧ s.sweep.state = .running ∧ s.sweep.cursor < 256 := by
  simp [State.stepOutstanding, and_assoc]

theorem sweepStep_keeps (h : s.stepOutstanding = true) :
    Keeps s ((s.stepSlot (Fin.ofNat 256 s.sweep.cursor)).advanceSweep) := by
  obtain ⟨run, running, below⟩ := stepOutstanding_iff.mp h
  obtain ⟨q, k, quiet, counted, step⟩ := stepSlot_eq s (Fin.ofNat 256 s.sweep.cursor)
  have runq : q.phase = .run := quiet.outside.phase.trans run
  have same : q.sweep = s.sweep := quiet.outside.sweep
  refine (quiet.keeps_run run).trans ?_
  rw [step]
  unfold State.advanceSweep
  dsimp only
  split_ifs with more
  · refine control_keeps runq (fun wf => ?_) id id
    rw [same] at wf
    obtain ⟨cursor, changed, number, amount, standing⟩ := wf
    obtain ⟨-, low, some', none', owed⟩ := standing running
    exact ⟨by dsimp only; omega, by dsimp only; omega, number, amount, fun _ => ⟨more, low, some', none', owed⟩⟩
  · have ended : Keeps q { q with
        sweep := { s.sweep with
          changed := s.sweep.changed + k, cursor := s.sweep.cursor + 1, state := .idle, ending := .done } } := by
      refine control_keeps runq (fun wf => ?_) id id
      rw [same] at wf
      obtain ⟨cursor, changed, number, amount, -⟩ := wf
      exact ⟨by dsimp only; omega, by dsimp only; omega, number, amount, fun no => SweepState.noConfusion no⟩
    exact ended.trans (device_keeps _ _)

end Sweeps

end Sys2Proof.Proofs.Invariants
end

section
/-! The rows of the supplies and the starts (R155 to R161). -/

namespace Sys2Proof.Proofs.Invariants

open Sys2Proof.Machine Sys2Proof.Laws Sys2Proof.Proofs.Checks Sys2Proof.Proofs.PermitEvaluation

/-! What a supply event withdraws (R58, R80, R123). -/

/-- No request is outstanding and no sweep runs. -/
structure Emptied (s : State) : Prop where
  sweep : s.sweep.state = .idle
  expiryRequests : s.expiryRequests = []
  requests : ∀ c, (s.channel c).requests = []

section Withdrawn

variable {s t : State}

theorem withdraw_requests (ch : Channel) : ch.withdraw.requests = [] := by
  unfold Channel.withdraw
  generalize ch.requests = l
  have kept : ∀ start : Channel, (l.foldl (fun c r => c.defer r.flow r.quantity) start).requests = start.requests := by
    induction l with
    | nil => exact fun _ => rfl
    | cons r l ih => exact fun start => (ih _).trans (defer_requests start r.flow r.quantity)
  exact kept _

/-- A withdrawal leaves the binding and the permit, whatever the phase. -/
theorem withdraw_kept (ch : Channel) : Follows true ch ch.withdraw := (requests_follows ch []).trans (withdraw_follows ch)

theorem defer_state (ch : Channel) (flow : Flow) (q : Nat) : (ch.defer flow q).state = ch.state := by
  unfold Channel.defer
  cases flow <;> split_ifs <;> rfl

theorem withdraw_state (ch : Channel) : ch.withdraw.state = ch.state := by
  unfold Channel.withdraw
  generalize ch.requests = l
  have kept : ∀ start : Channel, (l.foldl (fun c r => c.defer r.flow r.quantity) start).state = start.state := by
    induction l with
    | nil => exact fun _ => rfl
    | cons r l ih => exact fun start => (ih _).trans (defer_state start r.flow r.quantity)
  exact kept _

theorem interrupt_wf {w : Sweep} (wf : w.wf) : w.interrupt.wf := by
  unfold Sweep.interrupt
  split_ifs
  · exact idle_wf (w := w) rfl rfl rfl rfl rfl wf
  · exact wf

theorem interrupt_idle (w : Sweep) : w.interrupt.state = .idle := by
  unfold Sweep.interrupt
  split_ifs with h
  · rfl
  · cases hw : w.state with
    | idle => rfl
    | running => exact absurd hw h

theorem interrupt_channel (s : State) (c : Chan) : s.interrupt.channel c = (s.channel c).withdraw :=
  mapChannels_channel s (fun _ ch => ch.withdraw) c

theorem interrupt_emptied (s : State) : Emptied s.interrupt where
  sweep := interrupt_idle _
  expiryRequests := rfl
  requests := fun c => by
    rw [interrupt_channel]
    exact withdraw_requests _

theorem emptied_of_retain (retain : s.phase = .retain) (wf : s.supplyWf) : Emptied s := by
  obtain ⟨sweep, expiry, requests⟩ := wf.2.2.2.2 retain
  exact ⟨sweep, expiry, requests⟩

/-- An event that rewrites channels, with the fields that no table holds, and leaves every other table. -/
theorem keeps_of_tables (accounts : t.accounts = s.accounts) (tagMap : t.tagMap = s.tagMap) (tariffs : t.tariffs = s.tariffs)
    (holds : t.holds = s.holds) (channels : ∀ c, SameBinding (s.channel c) (t.channel c))
    (stack : s.stackWf → t.stackWf) (permits : s.permitWf → t.permitWf) (sweep : s.sweep.wf → t.sweep.wf)
    (supply : s.supplyWf → t.supplyWf) : Keeps s t where
  stack := stack
  permits := permits
  uses := usesWf_of_binding tariffs channels
  tags := by
    simp only [State.tagsWf, State.pair, tagMap]
    exact id
  limits := by
    simp only [State.limitsWf, State.account, accounts]
    exact id
  holds := by
    simp only [State.holdsWf, State.hold, holds]
    exact id
  sweep := sweep
  supply := supply

theorem interrupt_keeps (powered : s.powered = true) : Keeps s s.interrupt := by
  have follows : ∀ c, Follows true (s.channel c) (s.interrupt.channel c) := fun c => by
    rw [interrupt_channel]
    exact withdraw_kept _
  have states : ∀ c, (s.interrupt.channel c).state = (s.channel c).state := fun c => by
    rw [interrupt_channel, withdraw_state]
  refine keeps_of_tables rfl rfl rfl rfl (fun c => (follows c).toSameBinding) id (fun wf => ?_) interrupt_wf fun wf => ?_
  · obtain ⟨off, live, held⟩ := wf
    refine ⟨fun c => (follows c).off (off c), fun run c => (follows c).standing rfl (live run c), fun starting cold c => ?_⟩
    exact (states c).trans (held starting cold c)
  · obtain ⟨mark, position, divider, started, -⟩ := wf
    refine ⟨mark, position, divider, fun starting => ?_, fun retain => absurd powered (not_powered (.inl retain))⟩
    obtain ⟨stack, enable, -, -, channels⟩ := started starting
    have emptied := interrupt_emptied s
    exact ⟨stack, enable, emptied.sweep, emptied.expiryRequests, fun c => ⟨emptied.requests c, fun live =>
      (channels c).2 ((states c).symm.trans live)⟩⟩

end Withdrawn

/-! The starts. -/

theorem zero_below : 0 < Config.refckPerSecond := by decide

section Starts

variable {s : State} {cause : StartCause}

theorem warmStart_channel (s : State) (cause : StartCause) (c : Chan) :
    (s.warmStart cause).channel c = (s.channel c).warmStart :=
  mapChannels_channel s (fun _ ch => ch.warmStart) c

theorem warm_follows (ch : Channel) : Follows false ch ch.warmStart :=
  (park_follows false ch).trans (follows_of_fields rfl rfl rfl rfl rfl)

theorem warm_not_live (ch : Channel) : ch.warmStart.state ≠ .live := by
  unfold Channel.warmStart Channel.park
  split_ifs with h
  · exact ChanState.noConfusion
  · exact h

theorem warm_requests (ch : Channel) : ch.warmStart.requests = ch.requests := by
  unfold Channel.warmStart Channel.park
  split_ifs <;> rfl

/-- A warm start once the requests are withdrawn (R154, R159). -/
theorem warmStart_keeps (warm : cause ≠ .cold) (vdd : s.phase ≠ .off) (emptied : s.supplyWf → Emptied s) :
    Keeps s (s.warmStart cause) := by
  have follows : ∀ c, Follows false (s.channel c) ((s.warmStart cause).channel c) := fun c => by
    rw [warmStart_channel]
    exact warm_follows _
  refine keeps_of_tables rfl rfl rfl rfl (fun c => (follows c).toSameBinding) (fun _ => ?_) (fun wf => ?_) id fun wf => ?_
  · exact ⟨Nat.zero_le 16, List.Pairwise.nil, fun e he => absurd he List.not_mem_nil⟩
  · exact ⟨fun c => (follows c).off (wf.1 c), fun run => Phase.noConfusion run, fun _ cold => absurd cold warm⟩
  · have empty := emptied wf
    obtain ⟨mark, -, divider, -⟩ := wf
    refine ⟨⟨fun off => Phase.noConfusion off, fun lost => absurd (mark.mpr lost) vdd⟩, Nat.zero_le 256, divider, fun _ => ?_,
      fun retain => Phase.noConfusion retain⟩
    refine ⟨rfl, rfl, empty.sweep, empty.expiryRequests, fun c => ?_⟩
    rw [warmStart_channel]
    exact ⟨(warm_requests _).trans (empty.requests c), warm_not_live _⟩

theorem phase_ne_off (powered : s.powered = true) : s.phase ≠ .off := fun off => not_powered (.inr off) powered

theorem interrupt_warmStart_keeps (warm : cause ≠ .cold) (powered : s.powered = true) :
    Keeps s (s.interrupt.warmStart cause) :=
  (interrupt_keeps powered).trans (warmStart_keeps warm (phase_ne_off (s := s.interrupt) powered) fun _ => interrupt_emptied s)

theorem enterRetain_keeps (powered : s.powered = true) : Keeps s
    { s.interrupt.mapChannels (fun _ ch => { ch with receiver := .hunting }) with
      phase := .retain, vbk := true, port := s.port.dropCommand } := by
  refine (interrupt_keeps powered).trans ?_
  have hunting : ∀ c, (s.interrupt.mapChannels fun _ ch => { ch with receiver := .hunting }).channel c =
      { s.interrupt.channel c with receiver := .hunting } := mapChannels_channel s.interrupt _
  have emptied := interrupt_emptied s
  refine keeps_of_tables rfl rfl rfl rfl (fun c => ?_) id (fun wf => ?_) id fun wf => ?_
  · exact hunting c ▸ sameBinding_of_fields rfl rfl rfl
  · refine ⟨fun c => ?_, fun run => Phase.noConfusion run, fun starting => Phase.noConfusion starting⟩
    exact hunting c ▸ wf.1 c
  · obtain ⟨mark, position, divider, -⟩ := wf
    have vdd : s.interrupt.phase ≠ .off := phase_ne_off powered
    refine ⟨⟨fun off => Phase.noConfusion off, fun lost => absurd (mark.mpr lost) vdd⟩, position, divider,
      fun starting => Phase.noConfusion starting, fun _ => ⟨emptied.sweep, emptied.expiryRequests, fun c => ?_⟩⟩
    exact hunting c ▸ emptied.requests c

theorem supplyOff_keeps (s : State) : Keeps s
    { s.coldTables with
      phase := .off, startCause := .cold, supplyNoticeOwed := false, checkPosition := 0, retention := false,
      divider := 0, vbk := false, port := .empty, replay := none } := by
  have cold := coldTables_cold s
  have off : IsCold { s.coldTables with
      phase := .off, startCause := .cold, supplyNoticeOwed := false, checkPosition := 0, retention := false,
      divider := 0, vbk := false, port := .empty, replay := none } :=
    ⟨cold.account, cold.pair, cold.tariff, cold.channel, cold.hold, rfl, rfl, rfl, rfl, rfl⟩
  exact off.keeps fun _ => off.supplyWf (by simp) (Nat.zero_le 256) zero_below

/-- A cold start, held at STARTING or moved to RUN (R157). -/
theorem coldStart_keeps (s : State) (run : Bool) : Keeps s
    (let cold := { s.coldTables with
        phase := .starting, startCause := .cold, refPresent := true, supplyNoticeOwed := false, checkPosition := 0,
        retention := true, divider := 0, port := .empty, replay := none }
    if run then cold.coldRun else cold) := by
  have cold := coldTables_cold s
  cases run with
  | false =>
    have held : IsCold { s.coldTables with
        phase := .starting, startCause := .cold, refPresent := true, supplyNoticeOwed := false, checkPosition := 0,
        retention := true, divider := 0, port := .empty, replay := none } :=
      ⟨cold.account, cold.pair, cold.tariff, cold.channel, cold.hold, rfl, rfl, rfl, rfl, rfl⟩
    exact held.keeps fun _ => held.supplyWf (by simp) (Nat.zero_le 256) zero_below
  | true =>
    have started : IsCold (State.coldRun { s.coldTables with
        phase := .starting, startCause := .cold, refPresent := true, supplyNoticeOwed := false, checkPosition := 0,
        retention := true, divider := 0, port := .empty, replay := none }) :=
      ⟨cold.account, cold.pair, cold.tariff, cold.channel, cold.hold, rfl, rfl, rfl, rfl, rfl⟩
    exact started.keeps fun _ => started.supplyWf
      ⟨fun off => Phase.noConfusion off, fun lost => Bool.noConfusion lost⟩ (Nat.zero_le 256) zero_below

/-- A cold start held at STARTING moves to RUN when RESET_N rises: no channel is bound yet (R157, R159). -/
theorem coldRun_keeps (starting : s.phase = .starting) (cold : s.startCause = .cold) : Keeps s s.coldRun := by
  refine keeps_of_tables rfl rfl rfl rfl (fun _ => sameBinding_of_fields rfl rfl rfl) id (fun wf => ?_) id fun wf => ?_
  · obtain ⟨off, -, held⟩ := wf
    exact ⟨off, fun _ c stands => absurd (off c (held starting cold c)) stands, fun no => Phase.noConfusion no⟩
  · obtain ⟨mark, position, -⟩ := wf
    refine ⟨⟨fun off => Phase.noConfusion off, fun lost => ?_⟩, position, zero_below, fun no => Phase.noConfusion no,
      fun no => Phase.noConfusion no⟩
    exact absurd (starting.symm.trans (mark.mpr lost)) Phase.noConfusion

theorem reset_keeps (s : State) (level : Bool) : Keeps s { s with resetN := level } := ⟨id, id, id, id, id, id, id, id⟩

end Starts

/-! The start check (R160, R161). -/

section Check

variable {s : State}

theorem checkWalks_iff : s.checkWalks = true ↔ (s.phase = .starting ∧ s.startCause ≠ .cold) ∧ s.resetN = true := by
  simp [State.checkWalks]

theorem powered_of_checkWalks (h : s.checkWalks = true) : s.powered = true :=
  powered_iff.mpr (.inr (checkWalks_iff.mp h).1.1)

theorem position_keeps {n : Nat} (h : n ≤ 256) : Keeps s { s with checkPosition := n } where
  stack := id
  permits := id
  uses := id
  tags := id
  limits := id
  holds := id
  sweep := id
  supply := fun ⟨mark, _, divider, starting, retain⟩ => ⟨mark, h, divider, starting, retain⟩

theorem startCheckRead_keeps (walks : s.checkWalks = true) (below : s.checkPosition < 256) : Keeps s
    { (s.readRecord (Fin.ofNat 256 s.checkPosition)).1 with checkPosition := s.checkPosition + 1 } :=
  ((readRecord_quiet _).keeps (powered_of_checkWalks walks)).trans (position_keeps below)

theorem completionCharge_quiet (flow : Flow) (c : Chan) : Quiet s (s.completionCharge flow c) := by
  have read : Quiet s (s.readRecord (s.channel c).slot).1 := readRecord_quiet _
  unfold State.completionCharge
  dsimp only
  split_ifs
  · split
    · next h => rw [h] at read; exact read.trans (chargeDeferred_quiet c flow)
    · next h => rw [h] at read; exact read
    · next h => rw [h] at read; exact read
  · exact .refl s

theorem completionChannel_quiet (s : State) (c : Chan) : Quiet s (s.completionChannel c) :=
  (completionCharge_quiet .imp c).trans (completionCharge_quiet .exp c)

/-- The channel of an account that is OPEN becomes LIVE (R161 stage 2). -/
def revived (opened : Prop) [Decidable opened] (ch : Channel) : Channel :=
  if ch.bound ∧ opened then { ch with state := .live } else ch

theorem revived_alike (opened : Prop) [Decidable opened] (ch : Channel) : Alike true ch (revived opened ch) := by
  unfold revived
  split_ifs with h
  · exact ⟨⟨by rw [h.1]; rfl, rfl, rfl⟩, fun _ => ChanState.noConfusion, fun no => Bool.noConfusion no,
      fun no => Bool.noConfusion no⟩
  · exact (Follows.refl true ch).toAlike

theorem completion_follows (ch : Channel) : Follows true ch ch.completion := by
  unfold Channel.completion
  split_ifs
  · exact (evaluate_follows true ch).trans (reloadSilence_follows true _)
  · exact .refl true ch

/-- The redrive leaves a permit standing on a LIVE channel alone (R103). -/
theorem live_of_completion_standing {ch : Channel} (off : ch.state = .unbound → ch.permit = .off)
    (standing : ch.completion.permit ≠ .off) : ch.completion.state = .live := by
  unfold Channel.completion at standing ⊢
  split_ifs at standing ⊢ with bound
  · refine (reloadSilence_follows true ch.evaluate).standing rfl (fun stands => ?_) standing
    exact (evaluate_state ch).trans (live_of_evaluate_standing (bound_iff.mp bound) stands)
  · have unbound : ch.state = .unbound := by
      by_contra ne
      exact bound (bound_iff.mpr ne)
    exact absurd (off unbound) standing

/-- The causes of stage 5 are raised in the device record and the fault record; the sweep owes no notice afterwards. -/
theorem completionCauses_eq (s : State) : ∃ (device : NoticeRec) (faults : FaultRec) (owed : Bool) (stopOwed : Bool),
    s.completionCauses =
      { s with
        device := device, faults := faults, supplyNoticeOwed := owed, sweep := { s.sweep with stopOwed := stopOwed } } ∧
      (s.sweep.stopOwed = false → stopOwed = false) := by
  unfold State.completionCauses
  dsimp only
  by_cases supply : (s.raiseDevice Cause.startDone).supplyNoticeOwed = true
  · rw [if_pos supply]
    split_ifs
    · exact ⟨_, _, _, false, rfl, fun _ => rfl⟩
    · exact ⟨_, _, _, s.sweep.stopOwed, rfl, id⟩
  · rw [if_neg supply]
    split_ifs
    · exact ⟨_, _, _, false, rfl, fun _ => rfl⟩
    · exact ⟨_, _, _, s.sweep.stopOwed, rfl, id⟩

theorem completion_keeps (walks : s.checkWalks = true) : Keeps s s.completion := by
  obtain ⟨⟨starting, -⟩, -⟩ := checkWalks_iff.mp walks
  have charged : Quiet s (allChannels.foldl State.completionChannel s) := foldl_quiet completionChannel_quiet _ s
  refine (charged.keeps (powered_of_checkWalks walks)).trans ?_
  unfold State.completion
  have phase := charged.outside.phase.trans starting
  generalize allChannels.foldl State.completionChannel s = t at phase ⊢
  dsimp only
  obtain ⟨device, faults, owed, stopOwed, causes, cleared⟩ :=
    completionCauses_eq (t.completionStates.mapChannels fun _ ch => ch.completion)
  have channel : ∀ c, (State.completionRun (t.completionStates.mapChannels fun _ ch => ch.completion).completionCauses).channel c =
      (revived (t.mapState (t.channel c).slot = .opened) (t.channel c)).completion := by
    intro c
    rw [causes]
    refine (mapChannels_channel _ (fun _ ch => ch.completion) c).trans (congrArg Channel.completion ?_)
    exact mapChannels_channel t _ c
  have alike : ∀ c, Alike true (t.channel c) (revived (t.mapState (t.channel c).slot = .opened) (t.channel c)) :=
    fun c => revived_alike _ _
  rw [causes] at channel ⊢
  refine keeps_of_tables rfl rfl rfl rfl (fun c => ?_) id (fun wf => ?_) (fun wf => ?_) fun wf => ?_
  · rw [channel]
    exact (alike c).toSameBinding.trans (completion_follows _).toSameBinding
  · refine ⟨fun c => ?_, fun _ c => ?_, fun no => Phase.noConfusion no⟩
    · rw [channel]
      exact (completion_follows _).off ((alike c).off (wf.1 c))
    · rw [channel]
      exact live_of_completion_standing ((alike c).off (wf.1 c))
  · obtain ⟨cursor, changed, number, amount, standing⟩ := wf
    refine ⟨cursor, changed, number, amount, fun running => ?_⟩
    obtain ⟨below, low, some', none', owes⟩ := standing running
    exact ⟨below, low, some', none', cleared owes⟩
  · obtain ⟨mark, position, -⟩ := wf
    refine ⟨⟨fun no => Phase.noConfusion no, fun lost => ?_⟩, position, zero_below, fun no => Phase.noConfusion no,
      fun no => Phase.noConfusion no⟩
    exact absurd (phase.symm.trans (mark.mpr lost)) Phase.noConfusion

end Check

end Sys2Proof.Proofs.Invariants
end

section
/-! One step keeps each relation of Safety.lean, and each holds after reset. -/

namespace Sys2Proof.Proofs.Invariants

open Sys2Proof.Machine Sys2Proof.Laws Sys2Proof.Proofs.Checks

/-! Rows. -/

section Rows

variable {s t u : State}

theorem keeps_of_next (k : Keeps s u) (e : (.next u : Host.Outcome State Fault Refusal) = .next t) : Keeps s t := by
  cases e
  exact k

theorem fields_keep (s : State) (p : PortState) (r : Option ReplayEntry) (sdo : List Byte) (ref vbk owed : Bool) :
    Keeps s { s with port := p, replay := r, sdo := sdo, refPresent := ref, vbk := vbk, supplyNoticeOwed := owed } :=
  ⟨id, id, id, id, id, id, id, id⟩

theorem answered_keeps (s : State) (r : Response) : Keeps s (s.answered r) := port_keeps s _ _

/-- A block that keeps the relations in the phase it is taken in keeps them behind the port. -/
theorem serveWith_keeps {frame : List Byte} {served : Bool} {go : State → State}
    (taken : ∀ v, v.powered = true → ¬(v.phase = .starting ∧ served = false) → Keeps v (go v)) :
    Keeps s (serveWith frame served go s) := by
  refine serveWith_cases (P := Keeps s) (.refl s) (answered_keeps s) (fun p => ?_) fun powered phase p => ?_
  · exact (port_keeps s p s.replay).trans (readied_keeps _ frame .starting [])
  · exact (port_keeps s p s.replay).trans (taken { s with port := p } powered phase)

theorem serve_keeps {frame : List Byte} {body : State → Reply}
    (block : ∀ v : State, v.phase = .run → Keeps v (body v).state) (e : serve frame body s = .next t) : Keeps s t := by
  refine keeps_of_next (serveWith_keeps fun v powered phase => ?_) e
  have run : v.phase = .run := (powered_iff.mp powered).resolve_right fun starting => phase ⟨starting, rfl⟩
  exact (block v run).trans (readied_keeps _ _ _ _)

theorem commandEnds_keeps (s : State) (bytes : List Byte) : Keeps s (s.commandEnds bytes) := by
  unfold State.commandEnds
  split
  · exact .refl s
  split
  · exact answered_keeps s _
  · exact answered_keeps s _
  split
  · exact answered_keeps s _
  unfold State.takeFrame
  split
  · exact readied_keeps s _ _ _
  split_ifs
  · exact readied_keeps s _ _ _
  · exact readied_keeps s _ _ _
  · exact port_keeps s _ _

end Rows

/-- Every row of the table keeps every relation. -/
theorem exec_keeps {c : Instr} {s t : State} (e : exec c s = .next t) : Keeps s t := by
  cases c with
  | commandTransaction bytes =>
    refine keeps_of_next ?_ e
    split_ifs
    · exact commandEnds_keeps s bytes
    · exact .refl s
  | fetchTransaction clocked =>
    refine keeps_of_next ?_ e
    split_ifs
    · exact fields_keep s _ _ _ _ _ _
    · exact .refl s
  | ignoredTransaction first => exact keeps_of_next (.refl s) e
  | deviceStatus tag =>
    exact keeps_of_next (serveWith_keeps fun v _ _ => readied_keeps v _ _ _) e
  | restart tag =>
    exact keeps_of_next (serveWith_keeps fun v powered _ => interrupt_warmStart_keeps StartCause.noConfusion powered) e
  | eraseTables tag => exact serve_keeps (fun _ run => eraseTablesBody_keeps run) e
  | openAccount => exact serve_keeps (fun _ run => (openAccountBody_quiet _ _ _ _ _ _).keeps_run run) e
  | setLimits => exact serve_keeps (fun _ run => (setLimitsBody_quiet _ _ _).keeps_run run) e
  | setClass => exact serve_keeps (fun _ run => (setClassBody_quiet _).keeps_run run) e
  | adjust => exact serve_keeps (fun _ run => (adjustBody_quiet _ _ _).keeps_run run) e
  | freeze => exact serve_keeps (fun _ run => (freezeBody_quiet run).keeps_run run) e
  | thaw => exact serve_keeps (fun _ run => (thawBody_quiet run).keeps_run run) e
  | close => exact serve_keeps (fun _ run => closeBody_quiet.keeps_run run) e
  | release => exact serve_keeps (fun _ run => releaseBody_quiet.keeps_run run) e
  | readAccount => exact serve_keeps (fun _ run => readAccountBody_quiet.keeps_run run) e
  | readFigures => exact serve_keeps (fun _ run => readFiguresBody_quiet.keeps_run run) e
  | findTag => exact serve_keeps (fun _ run => (findTagBody_quiet _).keeps_run run) e
  | clearSticky => exact serve_keeps (fun _ run => clearStickyBody_quiet.keeps_run run) e
  | writeTariff => exact serve_keeps (fun _ _ => writeTariffBody_keeps _ _ _ _) e
  | readTariff => exact serve_keeps (fun _ _ => readTariffBody_keeps _) e
  | bindChannel => exact serve_keeps (fun _ run => bindChannelBody_keeps run _ _ _ _) e
  | unbindChannel => exact serve_keeps (fun _ run => unbindChannelBody_keeps run _) e
  | resyncChannel => exact serve_keeps (fun _ run => (resyncChannelBody_quiet run).keeps_run run) e
  | readChannel => exact serve_keeps (fun _ run => (readChannelBody_quiet _).keeps_run run) e
  | setChannelOptions => exact serve_keeps (fun _ run => (setChannelOptionsBody_quiet run _ _ _ _).keeps_run run) e
  | placeHold => exact serve_keeps (fun _ run => (placeHoldBody_quiet _ _).keeps_run run) e
  | captureHold => exact serve_keeps (fun _ run => (captureHoldBody_quiet _ _).keeps_run run) e
  | releaseHold => exact serve_keeps (fun _ run => (releaseHoldBody_quiet _).keeps_run run) e
  | readHold => exact serve_keeps (fun _ run => (readHoldBody_quiet _).keeps_run run) e
  | listHolds => exact serve_keeps (fun _ run => listHoldsBody_quiet.keeps_run run) e
  | drawHold => exact serve_keeps (fun _ run => (drawHoldBody_quiet _ _).keeps_run run) e
  | endDraw => exact serve_keeps (fun _ run => (endDrawBody_quiet _).keeps_run run) e
  | restorePermit => exact serve_keeps (fun _ run => restorePermitBody_quiet.keeps_run run) e
  | cutPermit => exact serve_keeps (fun _ run => cutPermitBody_quiet.keeps_run run) e
  | setRefill => exact serve_keeps (fun _ run => (setRefillBody_quiet _ _ _).keeps_run run) e
  | clearRefill => exact serve_keeps (fun _ run => clearRefillBody_quiet.keeps_run run) e
  | startSweep => exact serve_keeps (fun _ run => startSweepBody_keeps run _ _ _ _ _) e
  | stopSweep => exact serve_keeps (fun _ run => stopSweepBody_keeps run) e
  | readSweep => exact serve_keeps (body := readSweepBody) (fun v _ => .refl v) e
  | setNotice => exact serve_keeps (fun _ run => setNoticeBody_keeps run _ _ _ _ _) e
  | noticesOn => exact serve_keeps (fun _ run => setEnableBody_keeps run true) e
  | noticesOff => exact serve_keeps (fun _ run => setEnableBody_keeps run false) e
  | takeNotice => exact serve_keeps (fun _ run => takeNoticeBody_keeps run) e
  | endNotice => exact serve_keeps (fun _ run => endNoticeBody_keeps run) e
  | readPending => exact serve_keeps (fun _ run => readPendingBody_keeps run _) e
  | clearCauses => exact serve_keeps (fun _ run => clearCausesBody_keeps run _ _) e
  | readStack => exact serve_keeps (body := readStackBody) (fun v _ => .refl v) e
  | rebuildAccount => exact serve_keeps (fun _ run => (rebuildAccountBody_quiet _ _ _ _ _ _ _).keeps_run run) e
  | discardAccount => exact serve_keeps (fun _ run => discardAccountBody_keeps run _) e
  | nextDamaged => exact serve_keeps (fun _ run => nextDamagedBody_quiet.keeps_run run) e
  | reportFrame line lineSeq q0 q1 q2 flags check =>
    refine keeps_of_next ?_ e
    split_ifs with powered
    · exact (acceptedFrame_quiet line lineSeq q0 q1 q2 flags).keeps powered
    · exact (modifyChannel_quiet (badFrame_follows _)).keeps powered
    · exact .refl s
  | frameGapTimeout line => exact keeps_of_next (abandonFrame_keeps s line) e
  | framingMarkAbandon line => exact keeps_of_next (abandonFrame_keeps s line) e
  | usageCharge channel =>
    refine keeps_of_next ?_ e
    split
    · exact .refl s
    split_ifs with taken
    · exact (usageCharge_quiet taken.1 channel _ _).keeps_run taken.1
    · exact .refl s
  | secondEvent => exact keeps_of_next (second_keeps s) e
  | holdLifetimeExpiry entry =>
    refine keeps_of_next ?_ e
    split_ifs with due
    · have run := (secondsRun_iff.mp due.1).1
      have ticked : Quiet s (s.modifyHold entry Hold.tick) := modifyHold_quiet tick_wf
      exact (ticked.keeps_run run).trans (requests_keeps (ticked.outside.phase.trans run) _)
    · exact .refl s
  | holdExpiry handle =>
    refine keeps_of_next ?_ e
    dsimp only
    split_ifs with issued
    · exact holdExpiry_keeps issued.1 handle _
    · exact requests_keeps issued.1 _
    · exact .refl s
  | graceExpiry channel =>
    refine keeps_of_next ?_ e
    split_ifs with due
    · exact (modifyChannel_quiet (graceTick_follows _)).keeps_run (secondsRun_iff.mp due.1).1
    · exact .refl s
  | silenceTimeout channel =>
    refine keeps_of_next ?_ e
    split_ifs with due
    · exact (modifyChannel_quiet (silenceTick_follows _)).keeps_run (secondsRun_iff.mp due.1).1
    · exact .refl s
  | sweepStep =>
    refine keeps_of_next ?_ e
    split_ifs with outstanding
    · exact sweepStep_keeps outstanding
    · exact .refl s
  | referenceLost =>
    refine keeps_of_next ?_ e
    split_ifs
    · exact (fields_keep s s.port s.replay s.sdo false s.vbk s.supplyNoticeOwed).trans (faults_keeps _ _)
    · exact .refl s
  | referenceReturned =>
    refine keeps_of_next ?_ e
    split_ifs
    · exact fields_keep s _ _ _ _ _ _
    · exact .refl s
  | enterRetain =>
    refine keeps_of_next ?_ e
    split_ifs with powered
    · exact enterRetain_keeps powered
    · exact .refl s
  | supplyOff =>
    refine keeps_of_next ?_ e
    split_ifs
    · exact .refl s
    · exact supplyOff_keeps s
  | vbkLost =>
    refine keeps_of_next ?_ e
    split_ifs
    · exact fields_keep s _ _ _ _ _ _
    · exact .refl s
  | coldStart =>
    refine keeps_of_next ?_ e
    by_cases off : s.phase = .off ∧ s.retention = false
    · rw [if_pos off]
      exact coldStart_keeps s s.resetN
    · rw [if_neg off]
      exact .refl s
  | supplyReturn =>
    refine keeps_of_next ?_ e
    split_ifs with returned
    · have vdd : s.phase ≠ .off := fun off => Phase.noConfusion (returned.1.symm.trans off)
      exact (warmStart_keeps StartCause.noConfusion vdd (emptied_of_retain returned.1)).trans (fields_keep _ _ _ _ _ _ true)
    · exact .refl s
  | resetPinFall =>
    refine keeps_of_next ?_ e
    dsimp only
    split_ifs with high powered
    · exact (reset_keeps s false).trans
        (interrupt_warmStart_keeps (s := { s with resetN := false }) StartCause.noConfusion powered)
    · exact reset_keeps s false
    · exact .refl s
  | resetPinRise =>
    refine keeps_of_next ?_ e
    dsimp only
    split_ifs with held
    · have cold : s.phase = .starting ∧ s.startCause = .cold := by simpa [State.coldHeld] using held.1
      exact (reset_keeps s true).trans (coldRun_keeps (s := { s with resetN := true }) cold.1 cold.2)
    · exact reset_keeps s true
  | startCheckRead =>
    refine keeps_of_next ?_ e
    split_ifs with walks
    · exact startCheckRead_keeps walks.1 walks.2
    · exact .refl s
  | startCheckCompletion =>
    refine keeps_of_next ?_ e
    split_ifs with walked
    · exact completion_keeps walked.1
    · exact .refl s
  | frameSync line =>
    refine keeps_of_next ?_ e
    split_ifs with powered
    · exact (modifyChannel_quiet (follows_of_fields rfl rfl rfl rfl rfl)).keeps powered
    · exact .refl s

theorem step_of_pending {c : Instr} {rest : List Instr} {s : State} (h : s.pending = c :: rest) :
    step s = exec c { s with pending := rest } := by
  simp only [step, h]

theorem step_keeps {s t : State} (e : step s = .next t) : Keeps s t := by
  cases queue : s.pending with
  | nil =>
    refine keeps_of_next (refckPeriod_keeps s) ?_
    rw [← e]
    simp only [step, queue]
  | cons c rest =>
    have taken : Keeps s { s with pending := rest } := ⟨id, id, id, id, id, id, id, id⟩
    exact taken.trans (exec_keeps ((step_of_pending queue).symm.trans e))

/-! The obligations. -/

/-- Settles O1: the front of the queue decides. -/
theorem stepTakesFrontCommand : Obligations.StepTakesFrontCommand := fun _ _ _ => step_of_pending

/-- Settles O2: the tables are cold, and the rest is what a cold start leaves. -/
theorem resetIsColdStart : Obligations.ResetIsColdStart :=
  ⟨fun i => ⟨reset_cold.account i, reset_cold.pair i⟩, reset_cold.tariff, reset_cold.channel, reset_cold.hold, rfl, rfl, rfl,
    rfl, rfl, rfl, rfl, rfl, rfl, rfl, rfl, rfl, rfl, rfl, rfl, rfl⟩

/-- Settles O3: the tables are cold. -/
theorem invariantsHoldAtReset : Obligations.InvariantsHoldAtReset :=
  ⟨reset_cold.stackWf, reset_cold.permitWf, reset_cold.usesWf, reset_cold.tagsWf, reset_cold.limitsWf, reset_cold.holdsWf,
    reset_cold.sweepWf, reset_cold.supplyWf ⟨fun off => Phase.noConfusion off, fun lost => Bool.noConfusion lost⟩
      (Nat.zero_le 256) zero_below⟩

/-- Settles O4: one clause of what every step keeps. -/
theorem stackStaysRising : Obligations.StackStaysRising := fun _ _ wf e => (step_keeps e).stack wf

/-- Settles O5: one clause of what every step keeps. -/
theorem permitsStandOnLiveChannelsOnly : Obligations.PermitsStandOnLiveChannelsOnly := fun _ _ wf e => (step_keeps e).permits wf

/-- Settles O6: one clause of what every step keeps. -/
theorem usesCountsStayExact : Obligations.UsesCountsStayExact := fun _ _ wf e => (step_keeps e).uses wf

/-- Settles O7: one clause of what every step keeps. -/
theorem tagsStayDistinct : Obligations.TagsStayDistinct := fun _ _ wf e => (step_keeps e).tags wf

/-- Settles O8: one clause of what every step keeps. -/
theorem balancesStayWithinCeilings : Obligations.BalancesStayWithinCeilings := fun _ _ wf e => (step_keeps e).limits wf

/-- Settles O9: two clauses of what every step keeps. -/
theorem holdsAndSweepKeepTheirValues : Obligations.HoldsAndSweepKeepTheirValues := fun _ _ wf e =>
  ⟨(step_keeps e).holds wf.1, (step_keeps e).sweep wf.2⟩

/-- Settles O10: one clause of what every step keeps. -/
theorem phasesKeepTheirConditions : Obligations.PhasesKeepTheirConditions := fun _ _ wf e => (step_keeps e).supply wf

end Sys2Proof.Proofs.Invariants
end

section
/-! The Command Port (R163 to R171): how the bytes of a transaction are judged, how a host command is served, and that the
frame of a command gives the command back. -/

namespace Sys2Proof.Proofs.CommandPort

open Sys2Proof.Machine Sys2Proof.Laws Sys2Proof.Proofs.Invariants

/-! Judging (R165). -/

section Judging

variable {bytes : List Byte}

theorem judge_long (long : 3 ≤ bytes.length ∧ 32 < (bytes.getD 2 0).toNat) : judge bytes = .bad := if_pos long

theorem judge_short (fits : ¬(3 ≤ bytes.length ∧ 32 < (bytes.getD 2 0).toNat))
    (short : bytes.length < 4 + (bytes.getD 2 0).toNat) : judge bytes = .short := by
  unfold judge
  dsimp only
  exact (if_neg fits).trans (if_pos short)

theorem judge_complete (fits : (bytes.getD 2 0).toNat ≤ 32) (complete : 4 + (bytes.getD 2 0).toNat ≤ bytes.length) :
    judge bytes =
      if crc8 0 (bytes.take (3 + (bytes.getD 2 0).toNat)) = bytes.getD (3 + (bytes.getD 2 0).toNat) 0 then
        .good (bytes.take (4 + (bytes.getD 2 0).toNat))
      else .bad := by
  unfold judge
  dsimp only
  rw [if_neg fun long => absurd long.2 (Nat.not_lt.mpr fits), if_neg (Nat.not_lt.mpr complete)]

end Judging

section Frames

variable {tag number : Byte} {args : List Byte}

theorem frameOf_length (tag number : Byte) (args : List Byte) : (frameOf tag number args).length = 4 + args.length := by
  simp [frameOf]
  omega

theorem echoOf_frameOf (tag number : Byte) (args : List Byte) : echoOf (frameOf tag number args) = (tag, number) := rfl

/-- The third byte of a frame is its argument length. -/
theorem frameOf_lengthByte (short : args.length ≤ 32) (extra : List Byte) :
    ((frameOf tag number args ++ extra).getD 2 0).toNat = args.length := by
  have : ((frameOf tag number args ++ extra).getD 2 0) = BitVec.ofNat 8 args.length := rfl
  rw [this, BitVec.toNat_ofNat]
  omega

/-- A frame is judged good whatever bytes follow its check byte. -/
theorem judge_frameOf (short : args.length ≤ 32) (extra : List Byte) :
    judge (frameOf tag number args ++ extra) = .good (frameOf tag number args) := by
  have lengthByte := frameOf_lengthByte (tag := tag) (number := number) short extra
  have whole := frameOf_length tag number args
  rw [judge_complete (by omega) (by rw [List.length_append]; omega), lengthByte]
  have covered : (frameOf tag number args ++ extra).take (3 + args.length) =
      tag :: number :: BitVec.ofNat 8 args.length :: args := by
    rw [List.take_append_of_le_length (by omega), frameOf]
    exact List.take_left' (by simp; omega)
  have check : (frameOf tag number args ++ extra).getD (3 + args.length) 0 =
      crc8 0 (tag :: number :: BitVec.ofNat 8 args.length :: args) := by
    rw [List.getD_append _ _ _ _ (by omega), frameOf, List.getD_append_right _ _ _ _ (by simp; omega)]
    simp [show 3 + args.length - (args.length + 1 + 1 + 1) = 0 by omega]
  rw [covered, check, if_pos rfl, ← whole]
  exact congrArg Judgement.good List.take_left

end Frames

/-! The port's answers (R165 to R167). -/

section Answers

variable {s : State}

theorem commandTransaction_exec (powered : s.phase = .run ∨ s.phase = .starting) (bytes : List Byte) :
    exec (.commandTransaction bytes) s = .next (s.commandEnds bytes) :=
  congrArg Host.Outcome.next (if_pos (powered_iff.mpr powered))

theorem frame_of_idle (idle : ∀ f, s.port ≠ .busy f) : s.port.frame? = none := by
  cases hp : s.port with
  | empty => rfl
  | ready r => rfl
  | busy f => exact absurd hp (idle f)

theorem commandEnds_busy {f : List Byte} (busy : s.port = .busy f) (bytes : List Byte) : s.commandEnds bytes = s := by
  simp only [State.commandEnds, busy, PortState.frame?]

theorem commandEnds_bad (idle : ∀ f, s.port ≠ .busy f) {bytes : List Byte} (judged : judge bytes = .bad) :
    s.commandEnds bytes = s.answered (responseTo bytes .frameBad []) := by
  simp only [State.commandEnds, frame_of_idle idle, judged]

theorem commandEnds_short (idle : ∀ f, s.port ≠ .busy f) {bytes : List Byte} (judged : judge bytes = .short) :
    s.commandEnds bytes = s.answered (responseTo bytes .frameShort []) := by
  simp only [State.commandEnds, frame_of_idle idle, judged]

theorem replayOf_stored {e : ReplayEntry} (stored : s.replay = some e) :
    s.replayOf e.frame = some { e.response with replayed := true } := by
  simp only [State.replayOf, stored, if_true]

theorem replayOf_new {frame : List Byte} (new : ∀ e, s.replay = some e → e.frame ≠ frame) : s.replayOf frame = none := by
  unfold State.replayOf
  cases hr : s.replay with
  | none => rfl
  | some e => exact if_neg (new e hr)

theorem commandEnds_replay (idle : ∀ f, s.port ≠ .busy f) {bytes frame : List Byte} {r : Response}
    (judged : judge bytes = .good frame) (replay : s.replayOf frame = some r) : s.commandEnds bytes = s.answered r := by
  simp only [State.commandEnds, frame_of_idle idle, judged, replay]

theorem commandEnds_new (idle : ∀ f, s.port ≠ .busy f) {bytes frame : List Byte} (judged : judge bytes = .good frame)
    (new : s.replayOf frame = none) : s.commandEnds bytes = s.takeFrame frame := by
  simp only [State.commandEnds, frame_of_idle idle, judged, new]

/-- Settles O11: by the judgement of the bytes. -/
theorem commandTransactionIsJudged : Obligations.CommandTransactionIsJudged := by
  intro bytes s powered n answer
  rw [commandTransaction_exec powered]
  refine ⟨fun f busy => by rw [commandEnds_busy busy], fun idle => ⟨fun long => ?_, fun fits short => ?_,
    fun fits complete => ⟨fun bad => ?_, fun good e stored same => ?_⟩⟩⟩
  · rw [commandEnds_bad idle (judge_long long)]
    rfl
  · rw [commandEnds_short idle (judge_short fits short)]
    rfl
  · rw [commandEnds_bad idle ((judge_complete fits complete).trans (if_neg bad))]
    rfl
  · rw [commandEnds_replay idle ((judge_complete fits complete).trans (if_pos good)) (same ▸ replayOf_stored stored)]
    rfl

section Taking

variable {tag number : Byte} {args : List Byte} {n : Nat}

theorem takeFrame_unknown (unknown : argLength number = none) :
    s.takeFrame (frameOf tag number args) = s.readied (frameOf tag number args) .unknownCommand [] := by
  simp only [State.takeFrame, echoOf_frameOf, unknown]

theorem takeFrame_known (known : argLength number = some n) (short : args.length ≤ 32) :
    s.takeFrame (frameOf tag number args) =
      if n ≠ args.length then s.readied (frameOf tag number args) .badLength []
      else if s.phase = .starting ∧ number ≠ 0x01 then s.readied (frameOf tag number args) .starting []
      else { s with port := .busy (frameOf tag number args) } := by
  have lengthByte : ((frameOf tag number args).getD 2 0x00).toNat = args.length := by
    simpa using frameOf_lengthByte (tag := tag) (number := number) short []
  simp only [State.takeFrame, echoOf_frameOf, known, lengthByte]
  rfl

end Taking

/-- Settles O12: the frame is judged good, and the port answers or takes it by its number and length. -/
theorem goodFrameIsTaken : Obligations.GoodFrameIsTaken := by
  intro tag number args extra s powered idle short new frame answer
  have judged : judge (frame ++ extra) = .good frame := judge_frameOf short extra
  rw [commandTransaction_exec powered, commandEnds_new idle judged (replayOf_new new)]
  refine ⟨fun unknown => ?_, fun n known => ?_⟩
  · rw [takeFrame_unknown unknown]
    rfl
  · rw [takeFrame_known known short]
    refine ⟨fun wrong => ?_, fun right starting other => ?_, fun right served => ?_⟩
    · rw [if_pos wrong]
      rfl
    · rw [if_neg (not_not_intro right), if_pos ⟨starting, other⟩]
      rfl
    · rw [if_neg (not_not_intro right), if_neg]
      rintro ⟨starting, other⟩
      rcases served with run | status
      · exact absurd (run.symm.trans starting) Phase.noConfusion
      · exact other status

/-- Settles O13: one case for each state of the port. -/
theorem fetchAndIgnoredTransactions : Obligations.FetchAndIgnoredTransactions := by
  intro clocked first bytes s
  refine ⟨rfl, ?_, fun off => ⟨?_, ?_⟩, fun powered => ⟨fun r ready => ?_, fun none => ?_⟩⟩
  · rw [← powered_iff, State.rdy]
    cases s.port <;> simp
  · exact congrArg Host.Outcome.next (if_neg (not_powered off))
  · exact congrArg Host.Outcome.next (if_neg (not_powered off))
  · refine congrArg Host.Outcome.next ((if_pos (powered_iff.mpr powered)).trans ?_)
    simp only [State.fetchBytes, ready]
    rfl
  · refine congrArg Host.Outcome.next ((if_pos (powered_iff.mpr powered)).trans ?_)
    have mark : s.fetchBytes = [0x00] := by
      unfold State.fetchBytes
      split
      · next r ready => exact absurd ready (none r)
      · rfl
      · rfl
    rw [mark, List.singleton_append, ← List.replicate_succ, List.take_replicate, Nat.min_eq_left (Nat.le_succ clocked)]

end Answers

/-! Serving (R164, R166, R170). -/

section Serving

variable {c : Instr} {s : State} {tag number : Byte} {args : List Byte}

/-- A host command's row is served by the port; DEVICE STATUS alone during the start check. -/
theorem exec_hostArgs (host : c.hostArgs.isSome = true) : ∃ (served : Bool) (go : State → State),
    (∀ s, exec c s = .next (serveWith c.frame served go s)) ∧
      (served = true → ∃ tag args, c.hostArgs = some (tag, 0x01, args)) := by
  cases c with
  | deviceStatus tag => exact ⟨true, _, fun _ => rfl, fun _ => ⟨tag, [], rfl⟩⟩
  | commandTransaction | fetchTransaction | ignoredTransaction | reportFrame | frameGapTimeout | framingMarkAbandon
  | usageCharge | secondEvent | holdLifetimeExpiry | holdExpiry | graceExpiry | silenceTimeout | sweepStep | referenceLost
  | referenceReturned | enterRetain | supplyOff | vbkLost | coldStart | supplyReturn | resetPinFall | resetPinRise
  | startCheckRead | startCheckCompletion | frameSync => exact absurd host Bool.false_ne_true
  | restart | eraseTables | openAccount | setLimits | setClass | adjust | freeze | thaw | close | release | readAccount
  | readFigures | findTag | clearSticky | writeTariff | readTariff | bindChannel | unbindChannel | resyncChannel
  | readChannel | setChannelOptions | placeHold | captureHold | releaseHold | readHold | listHolds | drawHold | endDraw
  | restorePermit | cutPermit | setRefill | clearRefill | startSweep | stopSweep | readSweep | setNotice | noticesOn
  | noticesOff | takeNotice | endNotice | readPending | clearCauses | readStack | rebuildAccount | discardAccount
  | nextDamaged => exact ⟨false, _, fun _ => rfl, fun no => absurd no Bool.false_ne_true⟩

theorem frame_of_hostArgs (host : c.hostArgs = some (tag, number, args)) : c.frame = frameOf tag number args := by
  unfold Instr.frame
  rw [host]

theorem responseTo_frame (host : c.hostArgs = some (tag, number, args)) (st : Status) (result : List Byte) :
    responseTo c.frame st result = ⟨st, false, tag, number, result⟩ := by
  rw [frame_of_hostArgs host]
  rfl

variable {frame : List Byte} {served : Bool} {go : State → State}

theorem serveWith_new (powered : s.powered = true) (idle : ∀ f, s.port ≠ .busy f) (new : s.replayOf frame = none) :
    serveWith frame served go s = carryOut frame served go { s with port := .busy frame } := by
  simp only [serveWith, if_pos powered, frame_of_idle idle, new]

theorem serveWith_replay (powered : s.powered = true) (idle : ∀ f, s.port ≠ .busy f) {r : Response}
    (replay : s.replayOf frame = some r) : serveWith frame served go s = s.answered r := by
  simp only [serveWith, if_pos powered, frame_of_idle idle, replay]

theorem serveWith_busy (powered : s.powered = true) {f : List Byte} (busy : s.port = .busy f) :
    serveWith frame served go s = if f = frame then carryOut frame served go s else s := by
  unfold serveWith
  rw [if_pos powered, busy]
  rfl

theorem serveWith_unpowered (unpowered : s.powered = false) : serveWith frame served go s = s :=
  if_neg (ne_true_of_eq_false unpowered)

/-- Settles O14: through the ways the port serves a command. -/
theorem hostCommandArrivesWhole : Obligations.HostCommandArrivesWhole := by
  intro c s host
  obtain ⟨served, go, row, -⟩ := exec_hostArgs host
  refine ⟨fun powered idle => ⟨fun new => ?_, fun r replay => ?_⟩, fun f busy other => ?_, fun unpowered => ?_,
    fun tag number args hostArgs st result => ?_, fun f r => ?_⟩
  · rw [row, row, serveWith_new powered idle new,
      serveWith_busy (s := { s with port := .busy c.frame }) powered rfl, if_pos rfl]
  · rw [row, serveWith_replay powered idle replay]
    rfl
  · rw [row]
    by_cases powered : s.powered = true
    · rw [serveWith_busy powered busy, if_neg other]
    · rw [serveWith_unpowered (Bool.eq_false_of_not_eq_true powered)]
  · rw [row, serveWith_unpowered unpowered]
  · simp only [State.readied, responseTo_frame hostArgs]
  · unfold State.replayOf
    cases s.replay with
    | none => simp
    | some e =>
      by_cases same : e.frame = f
      · simp [same, eq_comm]
      · simp [same]

/-- Settles O15: the block is not reached. -/
theorem startCheckAnswersStarting : Obligations.StartCheckAnswersStarting := by
  intro c tag number args s hostArgs other starting busy
  obtain ⟨served, go, row, status⟩ := exec_hostArgs (c := c) (by rw [hostArgs]; rfl)
  have unserved : served = false := by
    cases served with
    | false => rfl
    | true =>
      obtain ⟨_, _, one⟩ := status rfl
      rw [hostArgs] at one
      cases one
      exact absurd rfl other
  rw [row, serveWith_busy (powered_iff.mpr (.inr starting)) busy, if_pos rfl, carryOut, if_pos ⟨starting, unserved⟩,
    State.readied, responseTo_frame hostArgs]
  rfl

end Serving

/-! Reading back (R169, R171). -/

section Reading

theorem leValue_leBytes (n v : Nat) : leValue (leBytes n v) = v % 256 ^ n := by
  induction n generalizing v with
  | zero => simp [leBytes, leValue, Nat.mod_one]
  | succ n ih =>
    rw [leBytes, leValue, ih, BitVec.toNat_ofNat, show 256 ^ (n + 1) = 256 * 256 ^ n from Nat.pow_succ']
    exact Nat.mod_mul.symm

theorem word_read (n : Nat) {w : Nat} (x : BitVec w) (fits : w ≤ 8 * n := by decide) :
    BitVec.ofNat w (leValue (leBytes n x.toNat)) = x := by
  have room : 2 ^ w ≤ 256 ^ n := by
    rw [show (256 : Nat) = 2 ^ 8 from rfl, ← Nat.pow_mul]
    exact Nat.pow_le_pow_right (by decide) fits
  rw [leValue_leBytes, Nat.mod_eq_of_lt (x.isLt.trans_le room), BitVec.ofNat_toNat, BitVec.setWidth_eq]

theorem slot_read (i : Slot) : Fin.ofNat 256 (BitVec.ofNat 8 i.val).toNat = i := by
  apply Fin.ext
  have := i.isLt
  simp [Fin.ofNat]

/-- The argument bytes of a host command have the length of the table. -/
theorem argLength_of_hostArgs (c : Instr) : Frames.Statement c := by
  cases c with
  | commandTransaction | fetchTransaction | ignoredTransaction | reportFrame | frameGapTimeout | framingMarkAbandon
  | usageCharge | secondEvent | holdLifetimeExpiry | holdExpiry | graceExpiry | silenceTimeout | sweepStep | referenceLost
  | referenceReturned | enterRetain | supplyOff | vbkLost | coldStart | supplyReturn | resetPinFall | resetPinRise
  | startCheckRead | startCheckCompletion | frameSync => exact Frames.statement_none rfl
  | deviceStatus | restart | eraseTables | openAccount | setLimits | setClass | adjust | freeze | thaw | close | release
  | readAccount | readFigures | findTag | clearSticky | writeTariff | readTariff | bindChannel | unbindChannel
  | resyncChannel | readChannel | setChannelOptions | placeHold | captureHold | releaseHold | readHold | listHolds | drawHold
  | endDraw | restorePermit | cutPermit | setRefill | clearRefill | startSweep | stopSweep | readSweep | setNotice
  | noticesOn | noticesOff | takeNotice | endNotice | readPending | clearCauses | readStack | rebuildAccount
  | discardAccount | nextDamaged => exact Frames.statement_of rfl rfl

theorem argLength_le {number : Byte} {n : Nat} (h : argLength number = some n) : n ≤ 32 := by
  unfold argLength at h
  split at h <;> cases h <;> decide

/-- The frame of a command is read back as the command. -/
def Decodes (c : Instr) : Prop :=
  ∀ (tag number : Byte) (args : List Byte), c.hostArgs = some (tag, number, args) → decodeCommand tag number args = some c

theorem decodes_none {c : Instr} (h : c.hostArgs = none) : Decodes c := fun _ _ _ e => by
  rw [h] at e
  cases e

/-- What is read of the frame's fields is the command, when each field is. -/
theorem decodes_of {c d : Instr} {t n : Byte} {l : List Byte} (h : c.hostArgs = some (t, n, l))
    (read : decodeCommand t n l = some d) (same : d = c) : Decodes c := fun _ _ _ e => by
  rw [h] at e
  cases e
  rw [read, same]

theorem decodes (c : Instr) : Decodes c := by
  cases c with
  | commandTransaction | fetchTransaction | ignoredTransaction | reportFrame | frameGapTimeout | framingMarkAbandon
  | usageCharge | secondEvent | holdLifetimeExpiry | holdExpiry | graceExpiry | silenceTimeout | sweepStep | referenceLost
  | referenceReturned | enterRetain | supplyOff | vbkLost | coldStart | supplyReturn | resetPinFall | resetPinRise
  | startCheckRead | startCheckCompletion | frameSync => exact decodes_none rfl
  | deviceStatus | restart | eraseTables | readTariff | unbindChannel | resyncChannel | readChannel | setChannelOptions
  | endDraw | restorePermit | cutPermit | stopSweep | readSweep | noticesOn | noticesOff | takeNotice | endNotice
  | readStack => exact decodes_of rfl rfl rfl
  | setClass tag slot | freeze tag slot | thaw tag slot | close tag slot | release tag slot | readAccount tag slot
  | readFigures tag slot | clearSticky tag slot | listHolds tag slot | clearRefill tag slot | discardAccount tag slot
  | nextDamaged tag slot =>
    refine decodes_of rfl rfl ?_
    congr 1
    exact slot_read slot
  | openAccount tag accountTag kind cls floor lowMark ceiling =>
    refine decodes_of rfl rfl ?_
    congr 1
    exacts [word_read 4 accountTag, word_read 4 floor, word_read 4 lowMark, word_read 5 ceiling]
  | setLimits tag slot floor lowMark ceiling =>
    refine decodes_of rfl rfl ?_
    congr 1
    exacts [slot_read slot, word_read 4 floor, word_read 4 lowMark, word_read 5 ceiling]
  | adjust tag slot dir amount force =>
    refine decodes_of rfl rfl ?_
    congr 1
    exacts [slot_read slot, word_read 4 amount]
  | findTag tag accountTag =>
    refine decodes_of rfl rfl ?_
    congr 1
    exact word_read 4 accountTag
  | writeTariff tag index rate shift mode =>
    refine decodes_of rfl rfl ?_
    congr 1
    exact word_read 2 rate
  | bindChannel tag channel slot imp exp =>
    refine decodes_of rfl rfl ?_
    congr 1
    exact slot_read slot
  | placeHold tag slot amount lifetime =>
    refine decodes_of rfl rfl ?_
    congr 1
    exacts [slot_read slot, word_read 4 amount, word_read 2 lifetime]
  | captureHold tag handle amount =>
    refine decodes_of rfl rfl ?_
    congr 1
    exacts [word_read 2 handle, word_read 4 amount]
  | releaseHold tag handle | readHold tag handle | drawHold tag _ handle =>
    refine decodes_of rfl rfl ?_
    congr 1
    exact word_read 2 handle
  | setRefill tag slot pool amount count =>
    refine decodes_of rfl rfl ?_
    congr 1
    exacts [slot_read slot, slot_read pool, word_read 4 amount]
  | startSweep tag number dir amount selector start =>
    refine decodes_of rfl rfl ?_
    congr 1
    exact word_read 4 amount
  | setNotice tag source level group mask enable =>
    refine decodes_of rfl rfl ?_
    congr 1
    exacts [word_read 2 source, word_read 2 mask]
  | readPending tag source =>
    refine decodes_of rfl rfl ?_
    congr 1
    exact word_read 2 source
  | clearCauses tag source causes =>
    refine decodes_of rfl rfl ?_
    congr 1
    exacts [word_read 2 source, word_read 2 causes]
  | rebuildAccount tag slot balance floor lowMark ceiling charged credited lastSweep =>
    refine decodes_of rfl rfl ?_
    congr 1
    exacts [slot_read slot, word_read 5 balance, word_read 4 floor, word_read 4 lowMark, word_read 5 ceiling,
      word_read 6 charged, word_read 6 credited]

/-- Settles O16: the table's length, and each field read back. -/
theorem decodeOfEncode : Obligations.DecodeOfEncode := fun c tag number args host =>
  have length := argLength_of_hostArgs c tag number args host
  ⟨length, argLength_le length, decodes c tag number args host⟩

end Reading

end Sys2Proof.Proofs.CommandPort
end

section
/-! The account commands of chapter 1: OPEN ACCOUNT, the checks on a named account, SET LIMITS, SET CLASS and ADJUST, and
the movements of one record (R7 to R11, R18, R19, R24 to R26). -/

namespace Sys2Proof.Proofs.AccountCommands

open Sys2Proof.Machine Sys2Proof.Laws Sys2Proof.Proofs.Checks Sys2Proof.Proofs.NoticeService

/-- A command at its block readies the refusal of its body, and nothing else changes. -/
theorem serve_refused {c : Instr} {body : State → Reply} {s : State} {st : Status} (hb : s.atBlock c)
    (refused : body s = refuse s st) : serve c.frame body s = .next (s.readied c.frame st []) := serve_answer hb refused

/-! OPEN ACCOUNT (R19). -/

section Opening

variable {s : State} {accountTag : BitVec 32} {kind cls : Byte} {floor lowMark : BitVec 32} {ceiling : BitVec 40}

/-- The limits of R6 over the arguments of a command. -/
def Ordered (floor lowMark : BitVec 32) (ceiling : BitVec 40) : Prop :=
  floor.toInt ≤ 0 ∧ floor.toInt ≤ lowMark.toInt ∧ lowMark.toInt < ceiling.toInt ∧ 1 ≤ ceiling.toInt

theorem limitsValid_of_ordered (h : Ordered floor lowMark ceiling) :
    ¬limitsValid floor.toInt lowMark.toInt ceiling.toInt = false :=
  ne_false_of_eq_true (limitsValid_iff.mpr h)

theorem openAccountBody_bad (h : accountTag = 0 ∨ (kind ≠ 0 ∧ kind ≠ 1) ∨ 15 < cls.toNat ∨ ¬Ordered floor lowMark ceiling) :
    openAccountBody accountTag kind cls floor lowMark ceiling s = refuse s .badArgument := by
  unfold openAccountBody
  cases hk : kindArg kind with
  | none => rfl
  | some k =>
    refine if_pos ?_
    rcases h with tag | unlisted | cls | limits
    · exact .inl tag
    · rw [kindArg_of_unlisted unlisted] at hk
      cases hk
    · exact .inr (.inl cls)
    · exact .inr (.inr (limitsValid_eq_false_iff.mpr limits))

/-- With its arguments good the command looks for the tag, then for a slot. -/
theorem openAccountBody_good (tag : accountTag ≠ 0) (listed : kind = 0 ∨ kind = 1) (low : cls.toNat ≤ 15)
    (limits : Ordered floor lowMark ceiling) :
    openAccountBody accountTag kind cls floor lowMark ceiling s =
      if (s.slotOfTag accountTag).isSome then refuse s .duplicateTag
      else match s.freeSlot with
        | none => refuse s .noSlot
        | some i => ⟨(s.setPair i (some ⟨accountTag, .opened⟩)).setAccount i
            (Account.opening accountTag (if kind = 0 then .consumer else .pool) cls.toNat floor.toInt lowMark.toInt
              ceiling.toInt s.newAccountSweep), .ok, natField 1 i.val⟩ := by
  unfold openAccountBody
  rw [kindArg_of_listed listed]
  refine if_neg ?_
  rintro (zero | high | bad)
  · exact tag zero
  · exact absurd high (Nat.not_lt.mpr low)
  · exact limitsValid_of_ordered limits bad

theorem freeSlot_eq_some {i : Slot} (free : s.pair i = none) (lowest : ∀ j < i, s.pair j ≠ none) : s.freeSlot = some i := by
  unfold State.freeSlot allSlots
  rw [List.find?_eq_some_iff_getElem]
  refine ⟨by simp [free], i.val, by simp, by simp, fun j lower => ?_⟩
  simpa [Option.isSome_iff_ne_none] using lowest ⟨j, by omega⟩ lower

theorem freeSlot_eq_none (full : ∀ j, s.pair j ≠ none) : s.freeSlot = none := by
  unfold State.freeSlot
  rw [List.find?_eq_none]
  intro j _ free
  exact full j (Option.isNone_iff_eq_none.mp free)

/-- With a floor of at most 0, EMPTY holds of a balance of 0 exactly where the floor is 0. -/
theorem opening_eq {tag : BitVec 32} {k : Kind} {c n : Nat} {f l e : Int} (below : f ≤ 0) :
    Account.opening tag k c f l e n =
      { state := .opened, tag := tag, kind := k, cls := c, balance := 0, floor := f, lowMark := l, ceiling := e, heldTotal := 0,
        holdList := [], bindingCount := 0, refill := none, dependents := 0, charged := 0, credited := 0, clamped := false,
        overrun := false, low := decide (0 ≤ l), empty := decide (f = 0), lastSweep := n, notice := ⟨0, 0, 0, false, 0⟩,
        syndrome := 0 } := by
  have empty : decide (0 ≤ f) = decide (f = 0) := decide_eq_decide.mpr ⟨fun h => le_antisymm below h, fun h => h.ge⟩
  rw [Account.opening, empty]
  rfl

/-- Settles O17: the tag is in no pair, and slot `i` is the lowest FREE one. -/
theorem openAccountCompletes : Obligations.OpenAccountCompletes := by
  intro s tag kind cls accountTag floor lowMark ceiling i c hb listed nonzero low floorLow floorMark markCeiling ceilingLow
    absent free lowest record
  refine serve_answer (body := openAccountBody accountTag kind cls floor lowMark ceiling) hb (r :=
    ⟨(s.setPair i (some ⟨accountTag, .opened⟩)).setAccount i record, .ok, [BitVec.ofNat 8 i.val]⟩) ?_
  rw [openAccountBody_good nonzero listed low ⟨floorLow, floorMark, markCeiling, ceilingLow⟩,
    AccountReads.slotOfTag_eq_none_iff.mpr absent, freeSlot_eq_some free lowest, opening_eq floorLow]
  rfl

end Opening

/-! ADJUST (R24). -/

section Adjusting

variable {s : State} {slot : Slot} {dir force : Byte} {amount : BitVec 32}

theorem adjustBody_range (sound : s.sound slot) (live : (s.account slot).state = .opened ∨ (s.account slot).state = .frozen)
    (bad : amount.toNat = 0 ∨ Config.maxAmount < amount.toNat) : adjustBody slot dir amount force s = refuse s .badArgument :=
  (withLive_of sound live).trans (if_pos bad)

/-- With the amount in range the direction and the force choice decide. -/
theorem adjustBody_good (sound : s.sound slot) (live : (s.account slot).state = .opened ∨ (s.account slot).state = .frozen)
    (low : 1 ≤ amount.toNat) (high : amount.toNat ≤ Config.maxAmount) :
    adjustBody slot dir amount force s =
      match dirArg dir, choiceArg force with
      | some .debit, some true =>
        adjusted slot ((s.account slot).debitApplied amount.toNat) (s.modifyAccount slot (Account.usageDebit amount.toNat))
      | some .debit, some false =>
        if (s.account slot).spendable < amount.toNat then refuse s .insufficient
        else adjusted slot amount.toNat (s.modifyAccount slot (Account.debit amount.toNat))
      | some .credit, some false =>
        if (s.account slot).ceiling < (s.account slot).balance + amount.toNat then refuse s .overCeiling
        else adjusted slot amount.toNat (s.modifyAccount slot (Account.credit amount.toNat))
      | _, _ => refuse s .badArgument :=
  (withLive_of sound live).trans (if_neg (by omega))

/-- A choice that is listed nowhere, or a forced credit. -/
theorem adjustBody_unlisted (sound : s.sound slot) (live : (s.account slot).state = .opened ∨ (s.account slot).state = .frozen)
    (bad : (dir ≠ 0 ∧ dir ≠ 1) ∨ (force ≠ 0 ∧ force ≠ 1) ∨ (dir = 1 ∧ force = 1)) :
    adjustBody slot dir amount force s = refuse s .badArgument := by
  by_cases range : amount.toNat = 0 ∨ Config.maxAmount < amount.toNat
  · exact adjustBody_range sound live range
  rw [adjustBody_good sound live (by omega) (by omega)]
  rcases bad with unlisted | unlisted | ⟨rfl, rfl⟩
  · rw [SweepCommands.dirArg_of_unlisted unlisted.1 unlisted.2]
  · rw [choiceArg_of_unlisted unlisted]
    split <;> simp_all
  · rfl

theorem adjustBody_forcedDebit (sound : s.sound slot)
    (live : (s.account slot).state = .opened ∨ (s.account slot).state = .frozen) (low : 1 ≤ amount.toNat)
    (high : amount.toNat ≤ Config.maxAmount) : adjustBody slot 0 amount 1 s =
      adjusted slot ((s.account slot).debitApplied amount.toNat) (s.modifyAccount slot (Account.usageDebit amount.toNat)) :=
  adjustBody_good sound live low high

theorem adjustBody_debit (sound : s.sound slot)
    (live : (s.account slot).state = .opened ∨ (s.account slot).state = .frozen) (low : 1 ≤ amount.toNat)
    (high : amount.toNat ≤ Config.maxAmount) : adjustBody slot 0 amount 0 s =
      if (s.account slot).spendable < amount.toNat then refuse s .insufficient
      else adjusted slot amount.toNat (s.modifyAccount slot (Account.debit amount.toNat)) :=
  adjustBody_good sound live low high

theorem adjustBody_credit (sound : s.sound slot)
    (live : (s.account slot).state = .opened ∨ (s.account slot).state = .frozen) (low : 1 ≤ amount.toNat)
    (high : amount.toNat ≤ Config.maxAmount) : adjustBody slot 1 amount 0 s =
      if (s.account slot).ceiling < (s.account slot).balance + amount.toNat then refuse s .overCeiling
      else adjusted slot amount.toNat (s.modifyAccount slot (Account.credit amount.toNat)) :=
  adjustBody_good sound live low high

theorem debitApplied_eq (n : Nat) (a : Account) : a.debitApplied n = min n (a.balance + 549755813888).toNat := by
  rw [Account.debitApplied, Config.minBalance, sub_neg_eq_add]

/-- Settles O21: one form of the command for each clause. -/
theorem adjustCompletes : Obligations.AdjustCompletes := by
  intro s tag dir force slot amount c a n done hb sound live low high
  refine ⟨?_, ?_, ?_⟩
  · rintro rfl rfl
    rw [← debitApplied_eq]
    exact serve_answer (body := adjustBody slot 0 amount 1) hb (adjustBody_forcedDebit sound live low high)
  · rintro rfl rfl enough
    exact serve_answer (body := adjustBody slot 0 amount 0) hb
      ((adjustBody_debit sound live low high).trans (if_neg (Int.not_lt.mpr enough)))
  · rintro rfl rfl room
    exact serve_answer (body := adjustBody slot 1 amount 0) hb
      ((adjustBody_credit sound live low high).trans (if_neg (Int.not_lt.mpr room)))

/-- Settles O18: OPEN ACCOUNT's checks in order, then ADJUST's. -/
theorem openAndAdjustRefusals : Obligations.OpenAndAdjustRefusals := by
  refine ⟨?_, ?_⟩
  · intro s tag kind cls accountTag floor lowMark ceiling c limits hb
    have refused {st : Status} (h : openAccountBody accountTag kind cls floor lowMark ceiling s = refuse s st) :
        exec c s = .next (s.readied c.frame st []) := serve_refused hb h
    refine ⟨fun bad => refused (openAccountBody_bad bad), fun nonzero listed low ordered => ⟨?_, fun absent full => refused ?_⟩⟩
    · rintro ⟨j, p, held, same⟩
      refine refused ?_
      have found : (s.slotOfTag accountTag).isSome = true := by
        by_contra none
        exact AccountReads.slotOfTag_eq_none_iff.mp (Option.not_isSome_iff_eq_none.mp none) j p held same
      rw [openAccountBody_good nonzero listed low ordered, if_pos found]
    · rw [openAccountBody_good nonzero listed low ordered, AccountReads.slotOfTag_eq_none_iff.mpr absent,
        freeSlot_eq_none full]
      rfl
  · intro s tag dir force slot amount c a hb sound live
    have refused {st : Status} (h : adjustBody slot dir amount force s = refuse s st) :
        exec c s = .next (s.readied c.frame st []) := serve_refused hb h
    refine ⟨fun bad => refused ?_, fun low high unforced => ⟨fun debit short => refused ?_, fun credit above => refused ?_⟩⟩
    · rcases bad with zero | big | other
      · exact adjustBody_range sound live (.inl zero)
      · exact adjustBody_range sound live (.inr big)
      · exact adjustBody_unlisted sound live other
    · subst unforced debit
      exact (adjustBody_debit sound live low high).trans (if_pos short)
    · subst unforced credit
      exact (adjustBody_credit sound live low high).trans (if_pos above)

end Adjusting

/-! The checks on the account a command names (R18). -/

/-- A command that names an account reads its record first, and only some accept a RETIRED one. -/
theorem namedAccount_body {c : Instr} {slot : Slot} (named : namedAccount c = some slot) :
    ∃ (body : State → Reply) (own : State → Account → Reply), (∀ s, exec c s = serve c.frame body s) ∧
      (∀ s, body s = withRecord slot s (own s)) ∧
      (acceptsRetired c = false → ∀ s, s.sound slot → (s.account slot).state = .retired → body s = refuse s .wrongState) := by
  cases c with
  | setLimits | setClass | adjust | freeze | thaw | close | bindChannel | placeHold | setRefill | clearRefill =>
    cases named
    exact ⟨_, _, fun _ => rfl, fun _ => rfl, fun _ _ sound retired => withLive_retired sound retired⟩
  | release | readAccount | readFigures | clearSticky | listHolds =>
    cases named
    exact ⟨_, _, fun _ => rfl, fun _ => rfl, fun no => absurd no.symm Bool.false_ne_true⟩
  | commandTransaction | fetchTransaction | ignoredTransaction | deviceStatus | restart | eraseTables | openAccount | findTag
  | writeTariff | readTariff | unbindChannel | resyncChannel | readChannel | setChannelOptions | captureHold | releaseHold
  | readHold | drawHold | endDraw | restorePermit | cutPermit | startSweep | stopSweep | readSweep | setNotice | noticesOn
  | noticesOff | takeNotice | endNotice | readPending | clearCauses | readStack | rebuildAccount | discardAccount
  | nextDamaged | reportFrame | frameGapTimeout | framingMarkAbandon | usageCharge | secondEvent | holdLifetimeExpiry
  | holdExpiry | graceExpiry | silenceTimeout | sweepStep | referenceLost | referenceReturned | enterRetain | supplyOff
  | vbkLost | coldStart | supplyReturn | resetPinFall | resetPinRise | startCheckRead | startCheckCompletion
  | frameSync => cases named

/-- Settles O19: each outcome of the read of the named record. -/
theorem accountChecks : Obligations.AccountChecks := by
  intro c slot s named hb
  obtain ⟨body, own, row, reads, retires⟩ := namedAccount_body named
  rw [row]
  refine ⟨fun free => serve_refused hb ?_, fun damaged => serve_refused hb ?_, fun mismatched => ?_,
    fun sound retired needs => serve_refused hb (retires needs s sound retired)⟩
  · rw [reads, withRecord_free free]
  · rw [reads, withRecord_damaged damaged]
  · exact serve_answer hb ((reads s).trans (withRecord_mismatched mismatched))

/-! SET LIMITS and SET CLASS (R25, R26). -/

section Setting

variable {s : State} {slot : Slot} {cls : Byte} {floor lowMark : BitVec 32} {ceiling : BitVec 40}

theorem setLimitsBody_live (sound : s.sound slot)
    (live : (s.account slot).state = .opened ∨ (s.account slot).state = .frozen) :
    setLimitsBody slot floor lowMark ceiling s =
      if limitsValid floor.toInt lowMark.toInt ceiling.toInt = false ∨ ceiling.toInt < (s.account slot).balance then
        refuse s .badArgument
      else ⟨(s.setAccount slot { s.account slot with
          floor := floor.toInt, lowMark := lowMark.toInt, ceiling := ceiling.toInt }).settle slot, .ok, []⟩ :=
  withLive_of sound live

theorem setClassBody_live (sound : s.sound slot)
    (live : (s.account slot).state = .opened ∨ (s.account slot).state = .frozen) :
    setClassBody slot cls s =
      if 15 < cls.toNat then refuse s .badArgument
      else ⟨s.setAccount slot { s.account slot with cls := cls.toNat }, .ok, []⟩ :=
  withLive_of sound live

/-- Settles O20: each command on a live account, with its arguments good and bad. -/
theorem setLimitsAndClassComplete : Obligations.SetLimitsAndClassComplete := by
  refine ⟨?_, ?_, ?_⟩
  · intro s tag slot floor lowMark ceiling c a hb sound live floorLow floorMark markCeiling ceilingLow below limited
    refine serve_answer (body := setLimitsBody slot floor lowMark ceiling) hb ((setLimitsBody_live sound live).trans (if_neg ?_))
    rintro (bad | above)
    · exact limitsValid_of_ordered ⟨floorLow, floorMark, markCeiling, ceilingLow⟩ bad
    · exact absurd above (Int.not_lt.mpr below)
  · intro s tag cls slot c hb sound live low
    exact serve_answer (body := setClassBody slot cls) hb ((setClassBody_live sound live).trans (if_neg (Nat.not_lt.mpr low)))
  · intro s tag cls slot floor lowMark ceiling limits classed sound live
    refine ⟨fun hb bad => ?_, fun hb high => ?_⟩
    · exact serve_refused (body := setLimitsBody slot floor lowMark ceiling) hb
        ((setLimitsBody_live sound live).trans (if_pos (bad.imp_left limitsValid_eq_false_iff.mpr)))
    · exact serve_refused (body := setClassBody slot cls) hb ((setClassBody_live sound live).trans (if_pos high))

end Setting

/-! Movements of one record (R7, R8, R11). -/

section Movements

variable {n : Nat} {a : Account}

theorem debitApplied_of_le (h : n ≤ (a.balance + 549755813888).toNat) : a.debitApplied n = n := by
  rw [debitApplied_eq, Nat.min_eq_left h]

theorem debitApplied_of_lt (h : (a.balance + 549755813888).toNat < n) :
    a.debitApplied n = (a.balance + 549755813888).toNat := by
  rw [debitApplied_eq, Nat.min_eq_right h.le]

theorem creditApplied_of_le (h : n ≤ (a.ceiling - a.balance).toNat) : a.creditApplied n = n := Nat.min_eq_left h

theorem creditApplied_of_lt (h : (a.ceiling - a.balance).toNat < n) :
    a.creditApplied n = (a.ceiling - a.balance).toNat := Nat.min_eq_right h.le

/-- Settles O22: a movement applied whole, and one cut short. -/
theorem movementsOfARecord : Obligations.MovementsOfARecord := by
  intro n a
  refine ⟨⟨fun whole => ?_, fun short => ?_⟩, ⟨fun whole => ?_, fun short => ?_⟩⟩
  · rw [Account.usageDebit, debitApplied_of_le whole]
    exact if_neg (lt_irrefl n)
  · rw [Account.usageDebit, debitApplied_of_lt short]
    exact if_pos short
  · rw [Account.clampedCredit, creditApplied_of_le whole]
    exact if_neg (lt_irrefl n)
  · rw [Account.clampedCredit, creditApplied_of_lt short]
    exact if_pos short

end Movements

end Sys2Proof.Proofs.AccountCommands
end

section
/-! The settle sequence, stage by stage (R12 to R16, R81). -/

namespace Sys2Proof.Proofs.Settling

open Sys2Proof.Machine Sys2Proof.Laws Sys2Proof.Proofs.Checks

/-! What the shared operations leave of a state. -/

section Shapes

variable {s t : State}

/-- An operation that reaches records, the map, channels, hold entries and the fault record alone leaves the rest. -/
theorem eq_of_outside (h : SameOutside s t) :
    t = { s with
      accounts := t.accounts, tagMap := t.tagMap, channels := t.channels, holds := t.holds, faults := t.faults } := by
  rw [← h.tariffs, ← h.expiryRequests, ← h.sweep, ← h.device, ← h.globalEnable, ← h.stack, ← h.phase, ← h.startCause,
    ← h.refPresent, ← h.supplyNoticeOwed, ← h.checkPosition, ← h.retention, ← h.divider, ← h.resetN, ← h.vbk, ← h.port,
    ← h.replay, ← h.sdo, ← h.choice, ← h.pending]

theorem channels_ext (h : ∀ c, t.channel c = s.channel c) : t.channels = s.channels := by
  refine Vector.ext fun n below => ?_
  exact h ⟨n, below⟩

theorem mapBound_id (s : State) (i : Slot) : s.mapBound i id = s := by
  have same : (s.mapBound i id).channels = s.channels := channels_ext fun c => by
    rw [mapBound_channel]
    exact ite_self _
  show { s with channels := (s.mapBound i id).channels } = s
  rw [same]

/-- A change of the channels bound to an account is decided by what each of them becomes. -/
theorem mapBound_congr {i : Slot} {f g : Channel → Channel} (h : ∀ ch, f ch = g ch) : s.mapBound i f = s.mapBound i g :=
  congrArg (s.mapBound i) (funext h)

theorem mapBound_account (s : State) (i : Slot) (f : Channel → Channel) (j : Slot) :
    (s.mapBound i f).account j = s.account j := rfl

end Shapes

/-! Stage (b). -/

section Refill

variable {s : State} {i : Slot}

theorem wantsRefill_iff {a : Account} : a.wantsRefill = true ↔
    (a.kind = .consumer ∧ a.state = .opened ∧ a.low = false ∧ a.balance - a.heldTotal ≤ a.lowMark) ∧
      ∃ r, a.refill = some r ∧ r.count ≠ 0 := by
  cases hr : a.refill <;> simp [Account.wantsRefill, hr, Account.lowNow, Account.freeBalance, and_assoc]

theorem refillStage_attempt {r : RefillSpec} (wants : (s.account i).wantsRefill = true) (spec : (s.account i).refill = some r) :
    s.refillStage i = s.refillAttempt i r := by
  unfold State.refillStage
  rw [if_pos wants, spec]

theorem refillStage_none (no : ¬(s.account i).wantsRefill = true) : s.refillStage i = s := if_neg no

end Refill

/-! Stage (c). -/

section Breaking

variable {s : State} {i : Slot}

theorem emptyNow_iff {a : Account} : a.emptyNow = true ↔ a.balance - a.heldTotal ≤ a.floor := by
  simp [Account.emptyNow, Account.freeBalance]

theorem breakStage_none (no : ¬((s.account i).emptyNow = true ∧ (s.account i).holdList ≠ [])) : s.breakStage i = s := if_neg no

theorem breakHolds_none (no : ¬((s.account i).emptyNow = true ∧ (s.account i).holdList ≠ [])) (n : Nat) :
    State.breakHolds n s i = s := by
  cases n with
  | zero => rfl
  | succ n =>
    unfold State.breakHolds
    by_cases empty : (s.account i).emptyNow = true
    · have none : (s.account i).holdList = [] := by
        by_contra some'
        exact no ⟨empty, some'⟩
      rw [if_pos empty, none]
      rfl
    · exact if_neg empty

theorem breakHolds_youngest {h : HoldIdx} (empty : (s.account i).emptyNow = true)
    (youngest : (s.account i).holdList.getLast? = some h) (n : Nat) :
    State.breakHolds (n + 1) s i = State.breakHolds n (s.freeHold i h) i := by
  rw [State.breakHolds, if_pos empty, youngest]

theorem endDrawing_account (s : State) (c : Option Chan) (j : Slot) : (s.endDrawing c).account j = s.account j := by
  cases c <;> rfl

theorem freeHold_account (s : State) (i j : Slot) (h : HoldIdx) :
    (s.freeHold i h).account j = (s.setAccount i { s.account i with
      holdList := (s.account i).holdList.erase h, heldTotal := (s.account i).heldTotal - (s.hold h).amount }).account j :=
  endDrawing_account _ _ j

theorem freeHold_holdList (s : State) (i : Slot) (h : HoldIdx) :
    ((s.freeHold i h).account i).holdList = (s.account i).holdList.erase h := by
  rw [freeHold_account, setAccount_account_same]

/-- A break for each hold of the list is enough: it ends with the account no longer EMPTY, or without a hold. -/
theorem breakHolds_ends (n : Nat) (s : State) (short : (s.account i).holdList.length ≤ n) :
    ¬(((State.breakHolds n s i).account i).emptyNow = true ∧ ((State.breakHolds n s i).account i).holdList ≠ []) := by
  induction n generalizing s with
  | zero => exact fun both => both.2 (List.length_eq_zero_iff.mp (Nat.le_zero.mp short))
  | succ n ih =>
    by_cases stands : (s.account i).emptyNow = true ∧ (s.account i).holdList ≠ []
    · obtain ⟨empty, some'⟩ := stands
      have youngest := List.getLast?_eq_some_getLast some'
      rw [breakHolds_youngest empty youngest]
      refine ih _ ?_
      rw [freeHold_holdList, List.length_erase_of_mem (List.getLast_mem some')]
      omega
    · rw [breakHolds_none stands]
      exact stands

/-- After stage (c) no hold stands on an EMPTY account (R14). -/
theorem breakStage_ends (s : State) (i : Slot) :
    ¬(((s.breakStage i).account i).emptyNow = true ∧ ((s.breakStage i).account i).holdList ≠ []) := by
  by_cases stands : (s.account i).emptyNow = true ∧ (s.account i).holdList ≠ []
  · have ended := breakHolds_ends (i := i) _ s le_rfl
    rw [State.breakStage, if_pos stands, State.raiseAccount, State.modifyAccount, setAccount_account_same]
    exact ended
  · rw [breakStage_none stands]
    exact stands

end Breaking

/-! Stages (d) and (e). -/

section Evaluating

/-- The causes that stage (d) raises (R15). -/
def raisedIf (enters : Bool) (cause : BitVec 16) : BitVec 16 := if enters then cause else 0

/-- The record as stage (d) leaves it. -/
def evaluated (a : Account) : Account :=
  { a with
    low := decide (a.balance - a.heldTotal ≤ a.lowMark), empty := decide (a.balance - a.heldTotal ≤ a.floor),
    notice := { a.notice with
      pending := a.notice.pending ||| raisedIf (decide (a.balance - a.heldTotal ≤ a.floor) && !a.empty) Cause.empty
        ||| raisedIf (decide (a.balance - a.heldTotal ≤ a.lowMark) && !a.low) Cause.low } }

theorem raise_if (enters : Bool) (cause : BitVec 16) (n : NoticeRec) :
    (if enters = true then n.raise cause else n) = { n with pending := n.pending ||| raisedIf enters cause } := by
  cases enters with
  | true => rfl
  | false => simp [raisedIf]

theorem evaluate_eq (a : Account) : a.evaluate = evaluated a := by
  unfold Account.evaluate
  dsimp only
  rw [raise_if, raise_if]
  rfl

/-- What stage (e) tells each bound channel (R16). -/
def told (empty was live : Bool) : Channel → Channel :=
  if empty = was then id else if empty then Channel.emptyEntered else Channel.emptyLeft live

theorem postEmpty_eq (s : State) (i : Slot) (was : Bool) :
    s.postEmpty i was = s.mapBound i (told (s.account i).empty was s.noticesLive) := by
  unfold State.postEmpty told
  dsimp only
  split_ifs
  · exact (mapBound_id s i).symm
  · rfl
  · rfl

/-- The sequence from stage (d) on, over what stages (b) and (c) have left. -/
theorem settle_eq (s : State) (i : Slot) :
    let b := (s.refillStage i).breakStage i
    s.settle i = (b.setAccount i (evaluated (b.account i))).mapBound i
      (told (evaluated (b.account i)).empty (b.account i).empty (decide (s.phase = .run))) := by
  intro b
  have outside : SameOutside s b := (refillStage_outside s i).trans (breakStage_outside (s.refillStage i) i)
  have live : (b.setAccount i (evaluated (b.account i))).noticesLive = decide (s.phase = .run) :=
    noticesLive_eq (outside.trans (setAccount_outside b i _))
  unfold State.settle
  dsimp only
  rw [postEmpty_eq, State.modifyAccount, evaluate_eq, setAccount_account_same, live]

theorem settle_account (s : State) (i : Slot) :
    (s.settle i).account i = { evaluated (((s.refillStage i).breakStage i).account i) with syndrome := 0 } := by
  rw [settle_eq, mapBound_account, setAccount_account_same]

end Evaluating

/-- Settles O23: the stages in order. -/
theorem settleLeavesConditionsEvaluated : Obligations.SettleLeavesConditionsEvaluated := by
  refine ⟨fun s i => ?_, fun s i => ⟨fun r entered spec left => ?_, fun no => ?_⟩,
    fun s i => ⟨fun no => ?_, fun breaks => ?_, fun n => ⟨fun no => ?_, fun h breaks youngest => ?_⟩⟩, settle_eq,
    fun s i cause f d => ⟨rfl, rfl, ?_⟩⟩
  · intro t a
    have settled : a = { evaluated (((s.refillStage i).breakStage i).account i) with syndrome := 0 } := settle_account s i
    refine ⟨by rw [settled]; rfl, by rw [settled]; rfl, fun standing => ?_, eq_of_outside (settle_outside s i)⟩
    have ended := breakStage_ends (s.refillStage i) i
    rw [settled] at standing ⊢
    by_contra empty
    exact ended ⟨emptyNow_iff.mpr (Int.not_lt.mp empty), standing⟩
  · exact refillStage_attempt (wantsRefill_iff.mpr ⟨entered, r, spec, left⟩) spec
  · refine refillStage_none fun wants => ?_
    obtain ⟨entered, r, spec, left⟩ := wantsRefill_iff.mp wants
    rcases no with out | spent
    · exact out entered
    · exact left (spent r spec)
  · exact breakStage_none fun both => no (both.imp_left emptyNow_iff.mp)
  · exact if_pos (breaks.imp_left emptyNow_iff.mpr)
  · exact breakHolds_none (fun both => no (both.imp_left emptyNow_iff.mp)) n
  · exact breakHolds_youngest (emptyNow_iff.mpr breaks.1) youngest n
  · rw [mapBound_channel]
    exact if_congr boundTo_iff rfl rfl

/-- Settles O24: stages (b) and (c) leave the state as it is. -/
theorem settleWithoutRefillOrBreaking : Obligations.SettleWithoutRefillOrBreaking := by
  intro s i a low empty unfilled unbroken raised evaluated told
  have filled : s.refillStage i = s := refillStage_none fun wants => by
    obtain ⟨⟨consumer, opened, wasLow, lowNow⟩, r, spec, left⟩ := wantsRefill_iff.mp wants
    rcases unfilled with kind | state | already | high | spent
    · exact kind consumer
    · exact state opened
    · exact Bool.false_ne_true (wasLow.symm.trans already)
    · exact of_decide_eq_false high lowNow
    · exact left (spent r spec)
  have broken : s.breakStage i = s := breakStage_none fun ⟨emptyNow, standing⟩ => by
    rcases unbroken with fed | none
    · exact of_decide_eq_false fed (emptyNow_iff.mp emptyNow)
    · exact standing none
  have settled := settle_eq s i
  dsimp only at settled
  rw [filled, broken] at settled
  exact settled

end Sys2Proof.Proofs.Settling
end

section
/-! The lifecycle of an account: FREEZE, THAW, CLOSE and RELEASE (R20 to R23, R86, R97). -/

namespace Sys2Proof.Proofs.Lifecycle

open Sys2Proof.Machine Sys2Proof.Laws Sys2Proof.Proofs.Checks Sys2Proof.Proofs.NoticeService
open Sys2Proof.Proofs.AccountCommands Sys2Proof.Proofs.PermitEvaluation

variable {s : State} {slot : Slot}

/-- A channel that leaves LIVE in RUN is not eligible, so its permit goes OFF (R97). -/
theorem park_eq (ch : Channel) : ch.park true =
    if ch.state = .live then
      { ch with state := .parked, permit := .off, graceRemaining := if ch.permit = .off then ch.graceRemaining else 0 }
    else ch := by
  unfold Channel.park
  refine if_congr Iff.rfl ?_ rfl
  have bound : ({ ch with state := .parked } : Channel).state ≠ .unbound := ChanState.noConfusion
  have barred : Barred { ch with state := .parked } := .inl ChanState.noConfusion
  show ({ ch with state := .parked } : Channel).evaluate = _
  by_cases off : ch.permit = .off
  · rw [evaluate_ineligible bound off fun h => ChanState.noConfusion (eligible_iff.mp h).1, if_pos off, ← off]
  · have stands : ch.permit = .on ∨ ch.permit = .grace := by
      cases hp : ch.permit with
      | off => exact absurd hp off
      | on => exact .inl rfl
      | grace => exact .inr rfl
    rw [evaluate_barred bound stands barred, if_neg off]
    rfl

theorem freezeBody_opened (sound : s.sound slot) (opened : (s.account slot).state = .opened) :
    freezeBody slot s = ⟨(s.setLife slot .frozen).mapBound slot (Channel.park true), .ok, []⟩ :=
  (withLive_of sound (.inl opened)).trans (if_pos opened)

theorem freezeBody_frozen (sound : s.sound slot) (frozen : (s.account slot).state = .frozen) :
    freezeBody slot s = refuse s .wrongState :=
  (withLive_of sound (.inr frozen)).trans (if_neg (by simp [frozen]))

theorem thawBody_frozen (sound : s.sound slot) (frozen : (s.account slot).state = .frozen) :
    thawBody slot s =
      ⟨(allChannels.foldl (State.chargeIfBound slot) ((s.setLife slot .opened).mapBound slot Channel.unpark)).mapBound slot
        Channel.evaluate, .ok, []⟩ :=
  (withLive_of sound (.inr frozen)).trans (if_pos frozen)

theorem thawBody_opened (sound : s.sound slot) (opened : (s.account slot).state = .opened) :
    thawBody slot s = refuse s .wrongState :=
  (withLive_of sound (.inl opened)).trans (if_neg (by simp [opened]))

theorem chargeIfBound_eq (slot : Slot) :
    State.chargeIfBound slot = fun t c => if (t.channel c).boundTo slot then (t.chargeBoth c).1 else t := rfl

theorem unpark_eq :
    Channel.unpark = fun ch => if ch.state = .parked then ({ ch with state := .live }).evaluate else ch := rfl

theorem allChannels_eq : allChannels = [0, 1, 2, 3, 4, 5, 6, 7] := by decide

/-- Settles O25: each command in the state it accepts and in the state it leads to. -/
theorem freezeAndThawComplete : Obligations.FreezeAndThawComplete := by
  refine ⟨?_, ?_, ?_, fun _ _ _ => rfl⟩
  · intro s tag slot c hb sound opened parked
    rw [← Settling.mapBound_congr park_eq]
    exact serve_answer (body := freezeBody slot) hb (freezeBody_opened sound opened)
  · intro s tag slot c hb sound frozen opened charged
    have answer := thawBody_frozen sound frozen
    rw [allChannels_eq, chargeIfBound_eq, unpark_eq] at answer
    have served := serve_answer (body := thawBody slot) hb answer
    exact served
  · intro s tag slot freeze thaw sound
    exact ⟨fun hb frozen => serve_refused (body := freezeBody slot) hb (freezeBody_frozen sound frozen),
      fun hb opened => serve_refused (body := thawBody slot) hb (thawBody_opened sound opened)⟩

section Closing

variable (sound : s.sound slot) (live : (s.account slot).state = .opened ∨ (s.account slot).state = .frozen)
include sound live

theorem closeBody_bound (bound : 0 < (s.account slot).bindingCount) : closeBody slot s = refuse s .bound :=
  (withLive_of sound live).trans (if_pos bound)

theorem closeBody_inUse (unbound : (s.account slot).bindingCount = 0) (pool : (s.account slot).kind = .pool)
    (used : 0 < (s.account slot).dependents) : closeBody slot s = refuse s .inUse :=
  (withLive_of sound live).trans ((if_neg (by omega)).trans (if_pos ⟨pool, used⟩))

theorem closeBody_free (unbound : (s.account slot).bindingCount = 0)
    (unused : (s.account slot).kind ≠ .pool ∨ (s.account slot).dependents = 0) :
    closeBody slot s =
      ⟨((((s.account slot).holdList.foldl (fun s h => s.freeHold slot h) s).modifyAccount slot
        (fun a => { a with holdList := [], heldTotal := 0 })).dropRefill slot).setLife slot .retired, .ok,
        natField 1 (s.account slot).holdList.length⟩ := by
  refine (withLive_of sound live).trans ((if_neg (by omega)).trans (if_neg ?_))
  rintro ⟨pool, used⟩
  rcases unused with kind | none
  · exact kind pool
  · omega

theorem releaseBody_live : releaseBody slot s = refuse s .wrongState := by
  refine (withRecord_sound sound).trans (if_neg ?_)
  rcases live with state | state <;> simp [state]

end Closing

theorem releaseBody_retired (sound : s.sound slot) (retired : (s.account slot).state = .retired) :
    releaseBody slot s = ⟨(s.setPair slot none).setAccount slot .zero, .ok, []⟩ :=
  (withRecord_sound sound).trans (if_pos retired)

/-- Settles O26: each command accepted and refused. -/
theorem closeAndReleaseComplete : Obligations.CloseAndReleaseComplete := by
  refine ⟨?_, ?_, ?_⟩
  · intro s tag slot c a hb sound live unbound unused freed emptied
    exact serve_answer (body := closeBody slot) hb (closeBody_free sound live unbound unused)
  · intro s tag slot c hb sound retired
    exact serve_answer (body := releaseBody slot) hb (releaseBody_retired sound retired)
  · intro s tag slot close release a sound live
    refine ⟨fun hb => ⟨fun bound => ?_, fun unbound pool used => ?_⟩, fun hb => ?_⟩
    · exact serve_refused (body := closeBody slot) hb (closeBody_bound sound live bound)
    · exact serve_refused (body := closeBody slot) hb (closeBody_inUse sound live unbound pool used)
    · exact serve_refused (body := releaseBody slot) hb (releaseBody_live sound live)

end Sys2Proof.Proofs.Lifecycle
end

section
/-! The tariff commands of chapter 2 and the channel commands of chapter 3 (R32, R40, R42, R62 to R68). -/

namespace Sys2Proof.Proofs.ChannelCommands

open Sys2Proof.Machine Sys2Proof.Laws Sys2Proof.Proofs.Checks Sys2Proof.Proofs.NoticeService
open Sys2Proof.Proofs.AccountCommands Sys2Proof.Proofs.PermitEvaluation

variable {s : State}

/-! WRITE TARIFF and READ TARIFF. -/

section Tariffs

variable {index shift mode : Byte} {rate : BitVec 16}

theorem writeTariffBody_good (t : TariffIdx) (low : shift.toNat ≤ 15) (listed : mode = 0 ∨ mode = 1) :
    writeTariffBody (BitVec.ofNat 8 t.val) rate shift mode s =
      ⟨s.setTariff t ⟨rate.toNat, shift.toNat, if mode = 0 then .truncate else .nearest, (s.tariff t).uses⟩, .ok,
        tariffResult (s.tariff t)⟩ := by
  unfold writeTariffBody
  rw [tariffArg_ofNat, roundingArg_of_listed listed]
  exact if_neg (Nat.not_lt.mpr low)

theorem writeTariffBody_bad (bad : 15 < index.toNat ∨ 15 < shift.toNat ∨ (mode ≠ 0 ∧ mode ≠ 1)) :
    writeTariffBody index rate shift mode s = refuse s .badArgument := by
  unfold writeTariffBody
  split
  · next t m named listed =>
    refine if_pos ?_
    rcases bad with high | high | unlisted
    · rw [tariffArg_above high] at named
      cases named
    · exact high
    · rw [roundingArg_of_unlisted unlisted] at listed
      cases listed
  · rfl

theorem readTariffBody_named (t : TariffIdx) :
    readTariffBody (BitVec.ofNat 8 t.val) s = ⟨s, .ok, tariffResult (s.tariff t)⟩ := by
  unfold readTariffBody
  rw [tariffArg_ofNat]

theorem readTariffBody_above (high : 15 < index.toNat) : readTariffBody index s = refuse s .badArgument := by
  unfold readTariffBody
  rw [tariffArg_above high]

/-- Settles O29: each command accepted and refused. -/
theorem tariffCommandsComplete : Obligations.TariffCommandsComplete := by
  intro s tag index shift mode rate w r
  refine ⟨?_, fun hb bad => ?_, fun hb high => ?_⟩
  · rintro t rfl e answer
    refine ⟨fun hb low listed => ?_, fun hb => ?_⟩
    · exact serve_answer (body := writeTariffBody (BitVec.ofNat 8 t.val) rate shift mode) hb
        (writeTariffBody_good t low listed)
    · exact serve_answer (body := readTariffBody (BitVec.ofNat 8 t.val)) hb (readTariffBody_named t)
  · exact serve_refused (body := writeTariffBody index rate shift mode) hb (writeTariffBody_bad bad)
  · exact serve_refused (body := readTariffBody index) hb (readTariffBody_above high)

end Tariffs

/-! BIND CHANNEL. -/

section Binding

variable {slot : Slot} {number imp exp : Byte}

theorem bindChannelBody_range (sound : s.sound slot)
    (live : (s.account slot).state = .opened ∨ (s.account slot).state = .frozen)
    (bad : ¬(number.toNat ≤ 7 ∧ imp.toNat ≤ 15 ∧ exp.toNat ≤ 15)) :
    bindChannelBody number slot imp exp s = refuse s .badArgument := by
  refine (withLive_of sound live).trans ?_
  split
  · next c timp texp named himp hexp =>
    refine absurd ⟨?_, ?_, ?_⟩ bad
    · by_contra high
      rw [channelArg_above (Nat.not_le.mp high)] at named
      cases named
    · by_contra high
      rw [tariffArg_above (Nat.not_le.mp high)] at himp
      cases himp
    · by_contra high
      rw [tariffArg_above (Nat.not_le.mp high)] at hexp
      cases hexp
  · rfl

theorem bindChannelBody_named (sound : s.sound slot)
    (live : (s.account slot).state = .opened ∨ (s.account slot).state = .frozen) (d : Chan) (timp texp : TariffIdx) :
    bindChannelBody (BitVec.ofNat 8 d.val) slot (BitVec.ofNat 8 timp.val) (BitVec.ofNat 8 texp.val) s =
      if (s.account slot).kind ≠ .consumer then refuse s .wrongKind
      else if (s.channel d).bound then refuse s .wrongState
      else
        ⟨((s.modifyAccount slot (fun a => { a with bindingCount := a.bindingCount + 1 })).changeUses timp texp
            (· + 1)).modifyChannel d
            (Channel.bind slot timp texp ((s.account slot).state = .opened) (s.account slot).empty), .ok, []⟩ := by
  refine (withLive_of sound live).trans ?_
  rw [channelArg_ofNat, tariffArg_ofNat, tariffArg_ofNat]

/-- A channel that was UNBOUND, and so OFF, takes its permit with the binding (R63, R91). -/
theorem bind_eq {ch : Channel} (off : ch.permit = .off) (slot : Slot) (timp texp : TariffIdx) (live empty : Bool) :
    Channel.bind slot timp texp live empty ch =
      { ch with
        state := if live then .live else .parked, slot := slot, importTariff := timp, exportTariff := texp, sync := none,
        silent := false, tamper := false, silenceCounter := ch.silenceTimeout, drawing := none, deferredImport := 0,
        deferredExport := 0, cutLatch := false, hostCut := false, emptyMark := empty,
        permit := if live = true ∧ empty = false then .on else .off } := by
  unfold Channel.bind
  by_cases on : live = true ∧ empty = false
  · obtain ⟨rfl, rfl⟩ := on
    refine evaluate_eligible ?_ off (eligible_iff.mpr ?_)
    · exact ChanState.noConfusion
    · exact ⟨rfl, rfl, rfl, rfl, fun silenced => Bool.false_ne_true silenced.2⟩
  · rw [if_neg on, ← off]
    refine evaluate_ineligible (by cases live <;> simp) off fun eligible => on ?_
    obtain ⟨islive, fed, -⟩ := eligible_iff.mp eligible
    exact ⟨by cases live <;> simp_all, fed⟩

/-- Settles O30: the refusals in order, then the channel as it is bound. -/
theorem bindChannelCompletes : Obligations.BindChannelCompletes := by
  refine ⟨?_, ?_⟩
  · intro s tag number imp out slot c a refused inRange hb sound live
    refine ⟨fun bad => serve_refused (body := bindChannelBody number slot imp out) hb (bindChannelBody_range sound live bad),
      fun good pool => ?_, fun good consumer d named bound => ?_⟩
    · obtain ⟨d, rfl⟩ := exists_chan good.1
      obtain ⟨timp, rfl⟩ := exists_tariff good.2.1
      obtain ⟨texp, rfl⟩ := exists_tariff good.2.2
      exact serve_refused (body := bindChannelBody _ slot _ _) hb
        ((bindChannelBody_named sound live d timp texp).trans (if_pos pool))
    · subst named
      obtain ⟨timp, rfl⟩ := exists_tariff good.2.1
      obtain ⟨texp, rfl⟩ := exists_tariff good.2.2
      exact serve_refused (body := bindChannelBody _ slot _ _) hb
        ((bindChannelBody_named sound live d timp texp).trans
          ((if_neg (not_not_intro consumer)).trans (if_pos (bound_iff.mpr bound))))
  · intro s tag slot d imp exp c a ch hb sound live consumer unbound off bumped counted used bound
    have counts : (s.modifyAccount slot (fun a => { a with bindingCount := a.bindingCount + 1 })).changeUses imp exp (· + 1) =
        used := rfl
    have kept : used.channel d = ch := Invariants.changeUses_channel _ imp exp (· + 1) d
    have named := bindChannelBody_named sound live d imp exp
    rw [if_neg (not_not_intro consumer), if_neg fun b => bound_iff.mp b unbound, counts, State.modifyChannel, kept,
      bind_eq off] at named
    simp only [decide_eq_true_iff] at named
    exact serve_answer (body := bindChannelBody _ slot _ _) hb named

end Binding

/-! UNBIND CHANNEL. -/

section Unbinding

variable {d : Chan}

theorem unbindChannelBody_sound (bound : (s.channel d).state ≠ .unbound) (sound : s.sound (s.channel d).slot) :
    unbindChannelBody (BitVec.ofNat 8 d.val) s =
      let u := s.modifyChannel d Channel.withdraw
      let charged := u.chargeBoth d
      ⟨(charged.1.modifyAccount (s.channel d).slot (fun a => { a with bindingCount := a.bindingCount - 1 })).unbindChannel d, .ok,
        natField 4 (u.channel d).deferredImport ++ natField 6 charged.2.1 ++ natField 4 (u.channel d).deferredExport
          ++ natField 6 charged.2.2 ++ [0x00]⟩ := by
  refine (withBound_ofNat bound).trans ?_
  simp only [readRecord_of_sound sound]

/-- The read of a record that is DAMAGED already, or is found damaged now (R147, R148). -/
theorem readRecord_damagedNow {i : Slot} (damaged : s.mapState i = .damaged ∨ s.mismatched i) :
    s.readRecord i = (if s.mapState i = .damaged then s else s.damage i, .damaged) := by
  rcases damaged with marked | mismatched
  · rw [readRecord_damaged marked, if_pos marked]
  · rw [readRecord_of_mismatched mismatched, if_neg mismatched.2.1]

theorem unbindChannelBody_damaged (bound : (s.channel d).state ≠ .unbound)
    (damaged : s.mapState (s.channel d).slot = .damaged ∨ s.mismatched (s.channel d).slot) :
    unbindChannelBody (BitVec.ofNat 8 d.val) s =
      let slot := (s.channel d).slot
      let u := (if s.mapState slot = .damaged then s else s.damage slot).modifyChannel d Channel.withdraw
      ⟨(u.unbindChannel d).modifyAccount slot (fun a => { a with bindingCount := (u.unbindChannel d).channelsBound slot }), .ok,
        natField 4 (u.channel d).deferredImport ++ natField 4 (u.channel d).deferredExport ++ [0x01]⟩ := by
  refine (withBound_ofNat bound).trans ?_
  simp only [readRecord_damagedNow damaged]

/-- The unbinding written out: the drawing ended, the uses counts lowered, the fields of the binding cleared (R64). -/
def unbound (d : Chan) (u : State) : State :=
  let ch := u.channel d
  let lowered (t : TariffIdx) (u : State) : State := u.setTariff t { u.tariff t with uses := (u.tariff t).uses - 1 }
  let v := lowered ch.importTariff (u.stopDrawing d)
  let w := if ch.exportTariff = ch.importTariff then v else lowered ch.exportTariff v
  w.setChannel d
    { w.channel d with
      state := .unbound, slot := 0, importTariff := 0, exportTariff := 0, sync := none, drawing := none,
      deferredImport := 0, deferredExport := 0, permit := .off, graceRemaining := 0, emptyMark := false }

theorem unbindChannel_eq (d : Chan) (u : State) : u.unbindChannel d = unbound d u := rfl

/-- Settles O31: the refusals, the unbinding itself, and the command on a sound and on a DAMAGED account. -/
theorem unbindChannelCompletes : Obligations.UnbindChannelCompletes := by
  refine ⟨?_, ?_⟩
  · intro s tag number c hb
    refine ⟨fun high => serve_refused (body := unbindChannelBody number) hb (withBound_above high), ?_⟩
    rintro d rfl unbound
    exact serve_refused (body := unbindChannelBody _) hb (withBound_unbound unbound)
  · intro s tag d c slot withdrawn lowered unbound
    refine ⟨unbindChannel_eq d, fun hb bound sound => ?_, fun hb bound damaged => ?_⟩
    · have served := serve_answer (body := unbindChannelBody _) hb (unbindChannelBody_sound bound sound)
      dsimp only at served
      rw [unbindChannel_eq] at served
      exact served
    · have served := serve_answer (body := unbindChannelBody _) hb (unbindChannelBody_damaged bound damaged)
      dsimp only at served
      rw [unbindChannel_eq] at served
      exact served

end Unbinding

/-! RESYNC CHANNEL, READ CHANNEL and SET CHANNEL OPTIONS. -/

section Others

variable {number clear grace timeout auto cut : Byte} {d : Chan}

theorem readChannelResult_eq (ch : Channel) :
    readChannelResult ch =
      [ch.state.code, BitVec.ofNat 8 ch.slot.val, BitVec.ofNat 8 ch.importTariff.val, BitVec.ofNat 8 ch.exportTariff.val,
        syncByte ch.sync] ++ leBytes 4 ch.deferredImport ++ leBytes 4 ch.deferredExport
        ++ leBytes 2 (handleValue ch.drawing) ++ [BitVec.ofNat 8 ch.grace, BitVec.ofNat 8 ch.silenceTimeout,
        BitVec.ofNat 8 ch.silenceCounter, BitVec.ofNat 8 (flagByte [ch.drawing.isSome, ch.autoRestore, ch.silentCut,
          ch.silent, ch.tamper, ch.cutLatch, ch.hostCut])]
        ++ leBytes 2 ch.framesTaken.toNat ++ [BitVec.ofNat 8 ch.badFrames, BitVec.ofNat 8 ch.duplicates,
        BitVec.ofNat 8 ch.missed, BitVec.ofNat 8 ch.stray, ch.permit.code, BitVec.ofNat 8 ch.graceRemaining] := by
  simp [readChannelResult, natField, leBytes]

theorem readChannelBody_bad (bad : 7 < number.toNat ∨ (clear ≠ 0 ∧ clear ≠ 1)) :
    readChannelBody number clear s = refuse s .badArgument := by
  rcases bad with high | unlisted
  · exact withChannel_above high
  · unfold readChannelBody withChannel
    rw [choiceArg_of_unlisted unlisted]
    cases channelArg number <;> rfl

theorem readChannelBody_named (listed : clear = 0 ∨ clear = 1) :
    readChannelBody (BitVec.ofNat 8 d.val) clear s =
      ⟨if clear = 0 then s else s.modifyChannel d Channel.clearCounters, .ok, readChannelResult (s.channel d)⟩ := by
  refine (withChannel_ofNat d).trans ?_
  rcases listed with rfl | rfl <;> rfl

theorem setChannelOptionsBody_bad (bad : 7 < number.toNat ∨ (auto ≠ 0 ∧ auto ≠ 1) ∨ (cut ≠ 0 ∧ cut ≠ 1)) :
    setChannelOptionsBody number grace timeout auto cut s = refuse s .badArgument := by
  rcases bad with high | unlisted
  · exact withChannel_above high
  unfold setChannelOptionsBody withChannel
  cases channelArg number with
  | none => rfl
  | some c =>
    dsimp only
    split
    · next on off hauto hcut =>
      rcases unlisted with unlisted | unlisted
      · rw [choiceArg_of_unlisted unlisted] at hauto
        cases hauto
      · rw [choiceArg_of_unlisted unlisted] at hcut
        cases hcut
    · rfl

theorem setChannelOptionsBody_named (listedAuto : auto = 0 ∨ auto = 1) (listedCut : cut = 0 ∨ cut = 1) :
    setChannelOptionsBody (BitVec.ofNat 8 d.val) grace timeout auto cut s =
      ⟨s.modifyChannel d (Channel.withOptions grace.toNat timeout.toNat (decide (auto = 1)) (decide (cut = 1))), .ok,
        natField 1 (s.channel d).grace ++ natField 1 (s.channel d).silenceTimeout
          ++ [choiceByte (s.channel d).autoRestore, choiceByte (s.channel d).silentCut]⟩ := by
  refine (withChannel_ofNat d).trans ?_
  rw [choiceArg_of_listed listedAuto, choiceArg_of_listed listedCut]

theorem withOptions_eq (g t : Nat) (a k : Bool) (ch : Channel) :
    Channel.withOptions g t a k ch =
      let set := { ch with
        grace := g, silenceTimeout := t, autoRestore := a, silentCut := k,
        silenceCounter := if ch.state = .unbound then ch.silenceCounter else t }
      if ch.silentCut = k then set else set.evaluate := by
  have counter : (if ch.bound = true then t else ch.silenceCounter) = if ch.state = .unbound then ch.silenceCounter else t := by
    by_cases unbound : ch.state = .unbound
    · rw [if_pos unbound, if_neg fun b => bound_iff.mp b unbound]
    · rw [if_neg unbound, if_pos (bound_iff.mpr unbound)]
  unfold Channel.withOptions
  rw [counter]
  rfl

/-- Settles O32: the refusals, then each command in turn. -/
theorem channelCommandsComplete : Obligations.ChannelCommandsComplete := by
  refine ⟨?_, ?_⟩
  · intro s tag number clear grace timeout auto cut resync read options
    refine ⟨fun hb high => serve_refused (body := resyncChannelBody number) hb (withBound_above high), ?_,
      fun hb bad => serve_refused (body := readChannelBody number clear) hb (readChannelBody_bad bad),
      fun hb bad => serve_refused (body := setChannelOptionsBody number grace timeout auto cut) hb
        (setChannelOptionsBody_bad bad)⟩
    rintro hb d rfl unbound
    exact serve_refused (body := resyncChannelBody _) hb (withBound_unbound unbound)
  · intro s tag d ch number
    refine ⟨fun hb bound => ?_, fun clear hb listed => ?_, ?_⟩
    · have served := serve_answer (body := resyncChannelBody _) hb (withBound_ofNat (d := d) bound)
      exact served
    · have served := serve_answer (body := readChannelBody _ clear) hb (readChannelBody_named (d := d) listed)
      rw [readChannelResult_eq] at served
      exact served
    · intro grace timeout auto cut c hb listedAuto listedCut set
      have named := setChannelOptionsBody_named (s := s) (d := d) (grace := grace) (timeout := timeout) listedAuto listedCut
      rw [State.modifyChannel, withOptions_eq] at named
      have served := serve_answer (body := setChannelOptionsBody _ grace timeout auto cut) hb named
      exact served

end Others

end Sys2Proof.Proofs.ChannelCommands
end

section
/-! The report lines (R44 to R54), the taking of usage-charge requests (R55 to R58) and the charging of a quantity (R36 to
R39, R83, R84). -/

namespace Sys2Proof.Proofs.Metering

open Sys2Proof.Machine Sys2Proof.Laws Sys2Proof.Proofs.Checks Sys2Proof.Proofs.PermitEvaluation
open Sys2Proof.Proofs.Invariants

variable {s : State} {d : Chan}

/-- A row leaves the state it is shown to leave. -/
theorem next_congr {t u : State} (h : t = u) : (.next t : Host.Outcome State Fault Refusal) = .next u :=
  congrArg Host.Outcome.next h

/-! Report frames. -/

section Frames

variable {p : Prop} [Decidable p] {seq : Fin 16} {flow : Flow} {q : Nat} {tamper : Bool}

theorem frameAccepted_iff {line : Chan} {lineSeq q0 q1 q2 flags check : Byte} :
    frameAccepted line lineSeq q0 q1 q2 flags check = true ↔
      crc8 0xFF [lineSeq, q0, q1, q2, flags] = check ∧ lineSeq.toNat / 16 = line.val ∧ flags &&& 0xFC = 0 := by
  simp [frameAccepted, and_assoc]

theorem frameSeq_eq (lineSeq : Byte) : frameSeq lineSeq = Fin.ofNat 16 (lineSeq.toNat % 16) :=
  Fin.ext (Nat.mod_mod _ _).symm

theorem quantity_eq (q0 q1 q2 : Byte) : leValue [q0, q1, q2] = q0.toNat + 256 * q1.toNat + 65536 * q2.toNat := by
  simp only [leValue]
  omega

/-- SILENT cleared is told to the Permit Unit in RUN alone (R59, R102). -/
theorem reloadSilence_eq (p : Prop) [Decidable p] (x : Channel) :
    x.reloadSilence (decide p) =
      let reloaded := { x with silenceCounter := x.silenceTimeout, silent := false }
      if x.silent = true ∧ p then reloaded.evaluate else reloaded := by
  unfold Channel.reloadSilence Channel.notify
  by_cases hp : p <;> by_cases hs : x.silent = true <;> simp [hp, hs]

/-- A taken report once its channel is counted and reloaded: the clearing of SILENT told, TAMPER latched, and the quantity
requested on a LIVE channel and deferred on any other (R54). -/
def reported (p : Prop) [Decidable p] (silent : Bool) (state : ChanState) (requests : List UsageRequest) (flow : Flow) (q : Nat)
    (tamper : Bool) (reloaded : Channel) : Channel :=
  let heard := if silent = true ∧ p then reloaded.evaluate else reloaded
  let latched := if tamper then ({ heard with tamper := true } : Channel).raise Cause.tamper else heard
  if state = .live then { latched with requests := requests ++ [⟨flow, q⟩] } else latched.defer flow q

theorem takeReport_eq (p : Prop) [Decidable p] (seq : Fin 16) (flow : Flow) (q : Nat) (tamper : Bool) (x : Channel) :
    x.takeReport (decide p) seq flow q tamper =
      reported p x.silent x.state x.requests flow q tamper { x with
        sync := some seq, framesTaken := x.framesTaken + 1, silenceCounter := x.silenceTimeout, silent := false } := by
  unfold Channel.takeReport reported
  dsimp only
  rw [reloadSilence_eq]
  dsimp only
  refine if_congr Iff.rfl ?_ rfl
  congr 2
  split_ifs <;> simp [Channel.raise]

/-- The receiver hunts again when a frame is complete (R45). -/
def hunting (ch : Channel) : Channel := { ch with receiver := .hunting }

theorem reportFrame_exec (powered : s.phase = .run ∨ s.phase = .starting) (line : Chan)
    (lineSeq q0 q1 q2 flags check : Byte) :
    exec (.reportFrame line lineSeq q0 q1 q2 flags check) s = .next
      (if frameAccepted line lineSeq q0 q1 q2 flags check then
        s.setChannel line ((hunting (s.channel line)).acceptFrame (decide (s.phase = .run)) (frameSeq lineSeq)
          (frameFlow flags) (leValue [q0, q1, q2]) (frameTamper flags))
      else s.setChannel line (s.channel line).badFrame) :=
  next_congr (if_pos (powered_iff.mpr powered))

theorem acceptFrame_unbound {live : Bool} {x : Channel} (unbound : x.state = .unbound) :
    x.acceptFrame live seq flow q tamper = x.strayFrame := if_pos unbound

theorem acceptFrame_duplicate {live : Bool} {x : Channel} (bound : x.state ≠ .unbound) (synced : x.sync = some seq) :
    x.acceptFrame live seq flow q tamper = x.duplicateFrame live := by
  unfold Channel.acceptFrame
  rw [if_neg bound, synced]
  exact if_pos (sub_self seq)

theorem acceptFrame_first {live : Bool} {x : Channel} (bound : x.state ≠ .unbound) (unsynced : x.sync = none) :
    x.acceptFrame live seq flow q tamper = x.takeReport live seq flow q tamper := by
  unfold Channel.acceptFrame
  rw [if_neg bound, unsynced]

theorem acceptFrame_next {live : Bool} {x : Channel} {last : Fin 16} (bound : x.state ≠ .unbound) (synced : x.sync = some last)
    (new : last ≠ seq) : x.acceptFrame live seq flow q tamper = (x.countGap (seq - last)).takeReport live seq flow q tamper := by
  unfold Channel.acceptFrame
  rw [if_neg bound, synced]
  exact if_neg (sub_ne_zero.mpr new.symm)

theorem abandonFrame_assembling (powered : s.phase = .run ∨ s.phase = .starting)
    (assembling : (s.channel d).receiver = .assembling) : s.abandonFrame d = s.setChannel d (s.channel d).badFrame :=
  if_pos ⟨powered_iff.mpr powered, assembling⟩

theorem abandonFrame_hunting (hunting : (s.channel d).receiver = .hunting) : s.abandonFrame d = s :=
  if_neg fun both => Receiver.noConfusion (hunting.symm.trans both.2)

theorem abandonFrame_unpowered (unpowered : ¬s.powered = true) : s.abandonFrame d = s := if_neg fun both => unpowered both.1

/-- Settles O33: the kinds of a frame in turn, then the receiver's rows. -/
theorem reportRowsComplete : Obligations.ReportRowsComplete := by
  intro s d lineSeq q0 q1 q2 flags check c ch raise heardAgain bad good seq quantity flow
  refine ⟨fun powered => ?_, fun off => ?_⟩
  · have row := reportFrame_exec powered d lineSeq q0 q1 q2 flags check
    rw [frameSeq_eq, quantity_eq] at row
    have accepted (h : good) := row.trans (next_congr (if_pos (frameAccepted_iff.mpr h)))
    refine ⟨fun h => ?_, fun h unbound => ?_, fun h bound synced => ?_, fun h bound new => ?_, ?_, fun assembling => ?_,
      fun hunting => ?_⟩
    · exact row.trans (next_congr (if_neg fun yes => h (frameAccepted_iff.mp yes)))
    · rw [accepted h, acceptFrame_unbound (x := hunting ch) unbound]
      rfl
    · intro counted
      rw [accepted h, acceptFrame_duplicate (x := hunting ch) bound synced, Channel.duplicateFrame, reloadSilence_eq]
      rfl
    · intro skipped counted gapped heard latched
      rw [accepted h]
      refine congrArg (fun x => Host.Outcome.next (s.setChannel d x)) ?_
      have taken : (hunting ch).acceptFrame (decide (s.phase = .run)) seq (frameFlow flags) quantity (frameTamper flags) =
          (if 1 ≤ skipped then ({ hunting ch with missed := min (ch.missed + skipped) 255 } : Channel).raise Cause.gap
            else hunting ch).takeReport (decide (s.phase = .run)) seq (frameFlow flags) quantity (frameTamper flags) := by
        cases hs : ch.sync with
        | none =>
          have none : skipped = 0 := by simp only [skipped, hs]
          rw [acceptFrame_first (x := hunting ch) bound hs, none]
          rfl
        | some last =>
          have distance : skipped = (seq - last).val - 1 := by simp only [skipped, hs]
          rw [acceptFrame_next (x := hunting ch) bound hs fun e => new (hs.trans (congrArg some e)), distance]
          exact congrArg (Channel.takeReport _ seq _ quantity _) (if_congr (by omega) rfl rfl)
      have reloaded : reported (s.phase = .run) ch.silent ch.state ch.requests flow quantity (frameTamper flags)
          { gapped with silenceCounter := ch.silenceTimeout, silent := false } =
          if ch.state = .live then { latched with requests := ch.requests ++ [⟨flow, quantity⟩] }
          else latched.defer flow quantity := rfl
      rw [taken, takeReport_eq, ← reloaded]
      by_cases gap : 1 ≤ skipped
      · simp only [gapped, if_pos gap]
        rfl
      · simp only [gapped, if_neg gap]
        rfl
    · exact next_congr (if_pos (powered_iff.mpr powered))
    · have abandoned := next_congr (abandonFrame_assembling powered assembling)
      exact ⟨abandoned, abandoned⟩
    · have kept := next_congr (abandonFrame_hunting hunting)
      exact ⟨kept, kept⟩
  · have unpowered := not_powered off
    have kept := next_congr (abandonFrame_unpowered (d := d) unpowered)
    exact ⟨next_congr (if_neg unpowered), next_congr (if_neg unpowered), kept, kept⟩

end Frames

/-! Usage-charge requests. -/

section Requests

theorem usageCharge_exec {r : UsageRequest} {rest : List UsageRequest} (run : s.phase = .run)
    (requests : (s.channel d).requests = r :: rest) (bound : (s.channel d).state ≠ .unbound) :
    exec (.usageCharge d) s = .next ((s.setChannel d { s.channel d with requests := rest }).takeRequest d r) := by
  show Host.Outcome.next _ = _
  rw [requests]
  exact next_congr (if_pos ⟨run, bound_iff.mpr bound⟩)

theorem setChannel_setChannel (s : State) (c : Chan) (x y : Channel) :
    (s.setChannel c x).setChannel c y = s.setChannel c y := by
  simp [State.setChannel]

theorem takeRequest_sound (r : UsageRequest) (sound : s.sound (s.channel d).slot) :
    s.takeRequest d r =
      if (s.account (s.channel d).slot).state = .opened then (s.chargeQuantity d r.flow r.quantity).1
      else s.setChannel d ((s.channel d).defer r.flow r.quantity) := by
  unfold State.takeRequest
  rw [readRecord_of_sound sound]
  rfl

theorem takeRequest_damaged (r : UsageRequest) (run : s.phase = .run)
    (damaged : s.mapState (s.channel d).slot = .damaged ∨ s.mismatched (s.channel d).slot) :
    s.takeRequest d r =
      let found := if s.mapState (s.channel d).slot = .damaged then s else s.damage (s.channel d).slot
      found.setChannel d (((found.channel d).park true).defer r.flow r.quantity) := by
  have outside : SameOutside s (s.readRecord (s.channel d).slot).1 := readRecord_outside s _
  unfold State.takeRequest
  rw [ChannelCommands.readRecord_damagedNow damaged] at outside ⊢
  dsimp only at outside ⊢
  rw [State.deferRequest, State.modifyChannel, noticesLive_of_run (outside.phase.trans run), if_pos rfl]

theorem defer_within {flow : Flow} {q : Nat} {ch : Channel} (fits : ch.deferred flow + q ≤ 4294967295) :
    ch.defer flow q = ch.setDeferred flow (ch.deferred flow + q) := if_pos fits

theorem defer_saturated {flow : Flow} {q : Nat} {ch : Channel} (lost : 4294967295 < ch.deferred flow + q) :
    ch.defer flow q = (ch.setDeferred flow 4294967295).raise Cause.deferSaturated := if_neg (Nat.not_le.mpr lost)

theorem withdraw_none {ch : Channel} (none : ch.requests = []) : ch.withdraw = ch := by
  unfold Channel.withdraw
  rw [none]
  show { ch with requests := [] } = ch
  rw [← none]

theorem withdraw_cons {ch : Channel} {r : UsageRequest} {rest : List UsageRequest} (requests : ch.requests = r :: rest) :
    ch.withdraw = (({ ch with requests := rest }).defer r.flow r.quantity).withdraw := by
  have start : ({ ch with requests := [] } : Channel).defer r.flow r.quantity =
      { ({ ch with requests := rest } : Channel).defer r.flow r.quantity with requests := [] } :=
    (defer_withRequests ch [] r.flow r.quantity).trans
      (congrArg (fun x : Channel => { x with requests := [] }) (defer_withRequests ch rest r.flow r.quantity).symm)
  unfold Channel.withdraw
  rw [requests, defer_requests, List.foldl_cons, start]

/-- Settles O34: the request on each state of the account, and the deferring and withdrawing of quantities. -/
theorem usageChargeCompletes : Obligations.UsageChargeCompletes := by
  refine ⟨?_, fun ch q => ⟨fun fits => ?_, fun lost => ?_, fun fits => ?_, fun lost => ?_⟩,
    fun ch => ⟨withdraw_none, fun r rest => withdraw_cons⟩⟩
  · intro s d r rest ch taken deferred run requests bound
    rw [usageCharge_exec run requests bound]
    have slot : (taken.channel d).slot = ch.slot := by rw [setChannel_channel_same]
    refine ⟨fun sound opened => ?_, fun sound frozen => ?_, fun damaged => ?_⟩
    · rw [takeRequest_sound (s := taken) r (slot ▸ sound), if_pos (slot ▸ opened)]
    · rw [takeRequest_sound (s := taken) r (slot ▸ sound), if_neg]
      rw [slot]
      exact fun opened => LifeState.noConfusion (frozen.symm.trans opened)
    · intro found
      have now := takeRequest_damaged (s := taken) (d := d) r run (slot ▸ damaged)
      rw [slot] at now
      rw [now]
      refine next_congr ?_
      show _ = (found.setChannel d ((found.channel d).park true)).setChannel d _
      rw [setChannel_setChannel, setChannel_channel_same]
      rfl
  · exact defer_within (flow := .imp) fits
  · exact defer_saturated (flow := .imp) lost
  · exact defer_within (flow := .exp) fits
  · exact defer_saturated (flow := .exp) lost

end Requests

/-! Charging a quantity. -/

section Charging

variable {i : Slot} {n : Nat}

theorem chargeQuantity_none {flow : Flow} {q : Nat} (free : (s.tariff ((s.channel d).tariffFor flow)).charge q = 0) :
    s.chargeQuantity d flow q = (s, 0) := if_pos free

theorem chargeQuantity_priced {flow : Flow} {q : Nat} (priced : (s.tariff ((s.channel d).tariffFor flow)).charge q ≠ 0) :
    s.chargeQuantity d flow q =
      let r := s.applyCharge d (s.channel d).slot flow ((s.tariff ((s.channel d).tariffFor flow)).charge q)
      (r.1.settle (s.channel d).slot, r.2) := if_neg priced

theorem drawnHold_none (undrawn : (s.channel d).drawing = none ∨ ∃ h, (s.channel d).drawing = some h ∧ s.honoured h = false) :
    s.drawnHold d = none := by
  unfold State.drawnHold
  rcases undrawn with absent | ⟨h, drawing, gone⟩
  · rw [absent]
  · rw [drawing]
    exact if_neg (ne_true_of_eq_false gone)

theorem drawnHold_some {h : Handle} (drawing : (s.channel d).drawing = some h) (honoured : s.honoured h = true) :
    s.drawnHold d = some h.idx := by
  unfold State.drawnHold
  rw [drawing]
  exact if_pos honoured

theorem importCharge_plain (undrawn : s.drawnHold d = none) :
    s.importCharge d i n = (s.setAccount i ((s.account i).usageDebit n), (s.account i).debitApplied n) := by
  unfold State.importCharge
  rw [undrawn]
  rfl

/-- The drawn part taken from the account and the hold (R83). -/
def paid (s : State) (i : Slot) (h : HoldIdx) (drawn : Nat) : State :=
  (s.setAccount i { s.account i with
      balance := (s.account i).balance - drawn, charged := min ((s.account i).charged + drawn) 281474976710655,
      heldTotal := (s.account i).heldTotal - drawn }).setHold h { s.hold h with amount := (s.hold h).amount - drawn }

/-- The hold spent: freed, and HOLD_SPENT raised (R84). -/
def spent (s : State) (i : Slot) (h : HoldIdx) : State :=
  ((paid s i h (s.hold h).amount).freeHold i h).raiseAccount i Cause.holdSpent

theorem paid_amount (s : State) (i : Slot) (h : HoldIdx) (drawn : Nat) :
    ((paid s i h drawn).hold h).amount = (s.hold h).amount - drawn := by
  rw [paid, setHold_hold_same]

theorem drawPart_partial {h : HoldIdx} (less : n < (s.hold h).amount) : s.drawPart i h n = paid s i h n := by
  refine if_neg ?_
  have left := paid_amount s i h n
  intro none
  have gone : ((paid s i h n).hold h).amount = 0 := none
  omega

theorem drawPart_whole (s : State) (i : Slot) (h : HoldIdx) : s.drawPart i h (s.hold h).amount = spent s i h := by
  refine if_pos ?_
  exact (paid_amount s i h _).trans (Nat.sub_self _)

theorem importCharge_partial {h : HoldIdx} (drawn : s.drawnHold d = some h) (less : n < (s.hold h).amount) :
    s.importCharge d i n = (paid s i h n, n) := by
  unfold State.importCharge
  rw [drawn]
  dsimp only
  rw [Nat.min_eq_left less.le, if_pos rfl, drawPart_partial less]

theorem importCharge_whole {h : HoldIdx} (drawn : s.drawnHold d = some h) (all : (s.hold h).amount ≤ n) :
    s.importCharge d i n =
      if n - (s.hold h).amount = 0 then (spent s i h, n)
      else ((spent s i h).modifyAccount i (Account.usageDebit (n - (s.hold h).amount)),
        (s.hold h).amount + ((spent s i h).account i).debitApplied (n - (s.hold h).amount)) := by
  unfold State.importCharge
  rw [drawn]
  dsimp only
  rw [Nat.min_eq_right all, drawPart_whole]
  by_cases rest : n - (s.hold h).amount = 0
  · have same : n = (s.hold h).amount := by omega
    rw [if_pos rest, if_pos same, same]
  · rw [if_neg rest, if_neg (by omega)]

/-- Settles O35: the charge in each direction, and the two deferred quantities in turn. -/
theorem chargeQuantityApplies : Obligations.ChargeQuantityApplies := by
  refine ⟨?_, ?_⟩
  · intro s d q ch i a price
    refine ⟨fun free => chargeQuantity_none free, fun free => chargeQuantity_none (flow := .exp) free, fun priced => ?_,
      fun priced => ?_⟩
    · exact chargeQuantity_priced (flow := .exp) priced
    intro n
    have charged : s.chargeQuantity d .imp q = ((s.importCharge d i n).1.settle i, (s.importCharge d i n).2) :=
      chargeQuantity_priced (flow := .imp) priced
    refine ⟨fun undrawn => ?_, fun h drawing honoured => ?_⟩
    · rw [charged, importCharge_plain (drawnHold_none undrawn), AccountCommands.debitApplied_eq]
    intro e drawn paid
    have drawnHold := drawnHold_some drawing honoured
    refine ⟨fun less => ?_, fun all => ?_⟩
    · have whole : drawn = n := Nat.min_eq_left less.le
      rw [charged, importCharge_partial drawnHold less]
      simp only [paid, whole]
      rfl
    · intro spent rest
      have part : drawn = e.amount := Nat.min_eq_right all
      have state : spent = Metering.spent s i h.idx := by
        simp only [spent, paid, part]
        rfl
      rw [charged, importCharge_whole drawnHold all, state]
      refine ⟨fun none => ?_, fun some' => ?_⟩
      · rw [if_pos none]
      · rw [if_neg some', AccountCommands.debitApplied_eq]
        rfl
  · intro s d ch imp out
    have other := chargeQuantity_deferred (s.modifyChannel d (Channel.setDeferred .imp 0)) d d .imp
    have last := chargeQuantity_deferred (imp.1.modifyChannel d (Channel.setDeferred .exp 0)) d d .exp
    refine ⟨rfl, rfl, rfl, ?_, ?_, ?_, ?_⟩
    · refine (other .imp ch.deferredImport).trans ?_
      rw [State.modifyChannel, setChannel_channel_same]
      rfl
    · refine (other .exp ch.deferredImport).trans ?_
      rw [State.modifyChannel, setChannel_channel_same]
      rfl
    · refine (last .imp (imp.1.channel d).deferredExport).trans ?_
      rw [State.modifyChannel, setChannel_channel_same]
      refine Eq.trans ?_ ((other .imp ch.deferredImport).trans ?_)
      · rfl
      · rw [State.modifyChannel, setChannel_channel_same]
        rfl
    · refine (last .exp (imp.1.channel d).deferredExport).trans ?_
      rw [State.modifyChannel, setChannel_channel_same]
      rfl

end Charging

end Sys2Proof.Proofs.Metering
end

section
/-! The hold commands of chapter 4, the freeing of a hold and the expiry rows (R70 to R89), and the permit commands and
outputs of chapter 5 (R92, R100, R101). -/

namespace Sys2Proof.Proofs.Holds

open Sys2Proof.Machine Sys2Proof.Laws Sys2Proof.Proofs.Checks Sys2Proof.Proofs.NoticeService
open Sys2Proof.Proofs.AccountCommands Sys2Proof.Proofs.Invariants Sys2Proof.Proofs.Metering Sys2Proof.Proofs.PermitEvaluation

variable {s : State} {slot : Slot} {d : Chan} {handle : BitVec 16}

/-! Handles (R71). -/

theorem honoured_iff {h : Handle} : s.honoured h = true ↔ (s.hold h.idx).held = true ∧ (s.hold h.idx).generation = h.gen := by
  simp [State.honoured]

theorem ofWord_idx (w : BitVec 16) : (Handle.ofWord w).idx.val = w.toNat % 64 := rfl

theorem ofWord_gen (w : BitVec 16) : (Handle.ofWord w).gen.val = w.toNat / 64 := by
  have := w.isLt
  show w.toNat / 64 % 1024 = w.toNat / 64
  omega

/-! PLACE HOLD. -/

section Placing

variable {amount : BitVec 32} {lifetime : BitVec 16}

theorem freeHoldEntry_eq_some {h : HoldIdx} (free : (s.hold h).held = false) (lowest : ∀ k < h, (s.hold k).held = true) :
    s.freeHoldEntry = some h := by
  unfold State.freeHoldEntry allHolds
  rw [List.find?_eq_some_iff_getElem]
  refine ⟨by simp [free], h.val, by simp, by simp, fun j lower => ?_⟩
  simpa using lowest ⟨j, by omega⟩ lower

theorem freeHoldEntry_eq_none (full : ∀ h, (s.hold h).held = true) : s.freeHoldEntry = none := by
  unfold State.freeHoldEntry
  rw [List.find?_eq_none]
  intro h _
  simp [full h]

theorem placeHoldBody_frozen (sound : s.sound slot) (frozen : (s.account slot).state = .frozen) :
    placeHoldBody slot amount lifetime s = refuse s .wrongState :=
  (withLive_of sound (.inr frozen)).trans (if_pos frozen)

section Open

variable (sound : s.sound slot) (opened : (s.account slot).state = .opened)
include sound opened

theorem placeHoldBody_range (bad : amount.toNat = 0 ∨ 2147483647 < amount.toNat) :
    placeHoldBody slot amount lifetime s = refuse s .badArgument :=
  (withLive_of sound (.inl opened)).trans ((if_neg (by simp [opened])).trans (if_pos bad))

/-- With the amount in range the account decides. -/
theorem placeHoldBody_good (low : 1 ≤ amount.toNat) (high : amount.toNat ≤ 2147483647) :
    placeHoldBody slot amount lifetime s =
      if (s.account slot).kind ≠ .consumer then refuse s .wrongKind
      else if (s.account slot).balance - (s.account slot).heldTotal - (s.account slot).floor < amount.toNat then
        refuse s .insufficient
      else if 8 ≤ (s.account slot).holdList.length then refuse s .accountHoldsFull
      else match s.freeHoldEntry with
        | none => refuse s .holdsFull
        | some h => ⟨(s.placed slot h amount.toNat lifetime.toNat).settle slot, .ok,
            natField 2 (s.handleOf h).value
              ++ [if ((s.placed slot h amount.toNat lifetime.toNat).settle slot).honoured (s.handleOf h) then 0x00 else 0x01]⟩ := by
  refine (withLive_of sound (.inl opened)).trans ((if_neg (by simp [opened])).trans (if_neg ?_))
  rintro (zero | big)
  · omega
  · exact absurd big (Nat.not_lt.mpr high)

end Open

/-- Settles O36: the hold placed, then the refusals in order. -/
theorem placeHoldCompletes : Obligations.PlaceHoldCompletes := by
  refine ⟨?_, ?_⟩
  · intro s tag slot amount lifetime h c a n gen hb sound opened consumer low high enough short free lowest placed t stands
    have body := placeHoldBody_good (lifetime := lifetime) sound opened low high
    rw [if_neg (not_not_intro consumer), if_neg (Int.not_lt.mpr enough), if_neg (Nat.not_le.mpr short),
      freeHoldEntry_eq_some free lowest] at body
    have honoured : (((s.placed slot h amount.toNat lifetime.toNat).settle slot).honoured (s.handleOf h) = true) ↔ stands :=
      honoured_iff
    dsimp only at body
    rw [if_congr honoured rfl rfl] at body
    have served := serve_answer (body := placeHoldBody slot amount lifetime) hb body
    exact served
  · intro s tag slot amount lifetime c a n refused hb sound
    have row {st : Status} (h : placeHoldBody slot amount lifetime s = refuse s st) : refused st := serve_refused hb h
    refine ⟨fun frozen => row (placeHoldBody_frozen sound frozen), fun opened =>
      ⟨fun bad => row (placeHoldBody_range sound opened bad), fun low high => ?_⟩⟩
    have body := placeHoldBody_good (lifetime := lifetime) sound opened low high
    refine ⟨fun pool => row (body.trans (if_pos pool)), fun consumer => ?_⟩
    rw [if_neg (not_not_intro consumer)] at body
    refine ⟨fun short => row (body.trans (if_pos short)), fun enough => ?_⟩
    rw [if_neg (Int.not_lt.mpr enough)] at body
    refine ⟨fun full => row (body.trans (if_pos full)), fun room full => row ?_⟩
    rw [body, if_neg (Nat.not_le.mpr room), freeHoldEntry_eq_none full]

end Placing

/-! CAPTURE HOLD and RELEASE HOLD. -/

section Capturing

variable {amount : BitVec 32}

section Honoured

variable (honoured : s.honoured (Handle.ofWord handle) = true) (sound : s.sound (s.hold (Handle.ofWord handle).idx).slot)
include honoured sound

theorem captureHoldBody_within (high : amount.toNat ≤ 2147483647)
    (within : amount.toNat ≤ (s.hold (Handle.ofWord handle).idx).amount) :
    captureHoldBody handle amount s =
      let h := (Handle.ofWord handle).idx
      let e := s.hold h
      let moved := if amount.toNat = 0 then s else s.modifyAccount e.slot (Account.usageDebit amount.toNat)
      let t := (moved.freeHold e.slot h).settle e.slot
      ⟨t, .ok, natField 4 amount.toNat ++ natField 4 (e.amount - amount.toNat) ++ int40Field (t.account e.slot).balance⟩ := by
  refine (withHold_sound honoured sound).trans (if_neg ?_)
  rintro (big | more)
  · exact absurd big (Nat.not_lt.mpr high)
  · exact absurd more (Nat.not_lt.mpr within)

theorem captureHoldBody_bad
    (bad : 2147483647 < amount.toNat ∨ (s.hold (Handle.ofWord handle).idx).amount < amount.toNat) :
    captureHoldBody handle amount s = refuse s .badArgument := (withHold_sound honoured sound).trans (if_pos bad)

end Honoured

/-- Settles O37: the handle's parts, then each outcome of the checks on it. -/
theorem captureAndReleaseHoldComplete : Obligations.CaptureAndReleaseHoldComplete := by
  intro s tag handle amount cap rel h e a n
  refine ⟨⟨ofWord_idx handle, ofWord_gen handle, honoured_iff⟩, fun honoured sound => ⟨fun hb high within => ?_,
    fun hb bad => ?_, fun hb => ?_⟩, fun honoured mismatched => ⟨fun hb => ?_, fun hb => ?_⟩,
    fun gone => ⟨fun hb => ?_, fun hb => ?_⟩⟩
  · have served := serve_answer (body := captureHoldBody handle amount) hb
      (captureHoldBody_within honoured sound high within)
    exact served
  · exact serve_refused (body := captureHoldBody handle amount) hb (captureHoldBody_bad honoured sound bad)
  · have served := serve_answer (body := releaseHoldBody handle) hb (withHold_sound honoured sound)
    exact served
  · exact serve_answer (body := captureHoldBody handle amount) hb (withHold_mismatched honoured mismatched)
  · exact serve_answer (body := releaseHoldBody handle) hb (withHold_mismatched honoured mismatched)
  · exact serve_refused (body := captureHoldBody handle amount) hb (withHold_gone gone)
  · exact serve_refused (body := releaseHoldBody handle) hb (withHold_gone gone)

end Capturing

/-! READ HOLD, LIST HOLDS, DRAW HOLD and END DRAW. -/

section Drawing

theorem readHoldBody_honoured (honoured : s.honoured (Handle.ofWord handle) = true) :
    readHoldBody handle s = ⟨s, .ok, readHoldResult (s.hold (Handle.ofWord handle).idx)⟩ := if_pos honoured

theorem readHoldBody_gone (gone : s.honoured (Handle.ofWord handle) = false) : readHoldBody handle s = refuse s .holdGone :=
  if_neg (ne_true_of_eq_false gone)

theorem readHoldResult_eq (e : Hold) :
    readHoldResult e = [BitVec.ofNat 8 e.slot.val] ++ leBytes 4 e.amount ++ leBytes 2 e.lifetime
      ++ [if e.expiryDue then 0x01 else 0x00, if e.drawnBy.isSome then 0x01 else 0x00,
          BitVec.ofNat 8 (match e.drawnBy with | some x => x.val | none => 0)] := by
  simp only [readHoldResult, List.append_assoc]
  cases e.drawnBy <;> rfl

theorem drawHoldBody_above {b : Byte} (honoured : s.honoured (Handle.ofWord handle) = true)
    (sound : s.sound (s.hold (Handle.ofWord handle).idx).slot) (high : 7 < b.toNat) :
    drawHoldBody b handle s = refuse s .badArgument := by
  refine (withHold_sound honoured sound).trans ?_
  rw [channelArg_above high]

theorem drawHoldBody_named (honoured : s.honoured (Handle.ofWord handle) = true)
    (sound : s.sound (s.hold (Handle.ofWord handle).idx).slot) :
    drawHoldBody (BitVec.ofNat 8 d.val) handle s =
      if (s.channel d).boundTo (s.hold (Handle.ofWord handle).idx).slot = false then refuse s .badArgument
      else if (s.channel d).drawing.isSome then refuse s .wrongState
      else if (s.hold (Handle.ofWord handle).idx).drawnBy.isSome then refuse s .inUse
      else ⟨s.startDrawing d (Handle.ofWord handle), .ok, []⟩ := by
  refine (withHold_sound honoured sound).trans ?_
  rw [channelArg_ofNat]

theorem boundTo_of {i : Slot} {ch : Channel} (bound : ch.state ≠ .unbound) (same : ch.slot = i) : ¬ch.boundTo i = false := by
  rw [Bool.not_eq_false]
  exact boundTo_iff.mpr ⟨bound, same⟩

theorem not_boundTo_of {i : Slot} {ch : Channel} (apart : ch.state = .unbound ∨ ch.slot ≠ i) : ch.boundTo i = false := by
  rw [← Bool.not_eq_true]
  intro bound
  obtain ⟨some', same⟩ := boundTo_iff.mp bound
  rcases apart with unbound | other
  · exact some' unbound
  · exact other same

theorem endDrawBody_none (undrawn : (s.channel d).drawing = none) :
    endDrawBody (BitVec.ofNat 8 d.val) s = refuse s .wrongState := by
  refine (withChannel_ofNat d).trans ?_
  rw [undrawn]

theorem endDrawBody_some {g : Handle} (drawing : (s.channel d).drawing = some g) :
    endDrawBody (BitVec.ofNat 8 d.val) s = ⟨s.stopDrawing d, .ok, natField 2 g.value⟩ := by
  refine (withChannel_ofNat d).trans ?_
  rw [drawing]

theorem stopDrawing_none (undrawn : (s.channel d).drawing = none) : s.stopDrawing d = s.setChannel d (s.channel d) := by
  have same : ({ s.channel d with drawing := none } : Channel) = s.channel d := by rw [← undrawn]
  unfold State.stopDrawing
  rw [drawnHold_none (.inl undrawn)]
  exact congrArg (s.setChannel d) same

/-- A drawing ended at both ends, and at the channel's alone where its hold is gone (R85). -/
theorem stopDrawing_some {g : Handle} (drawing : (s.channel d).drawing = some g) :
    s.stopDrawing d =
      (if s.honoured g then s.setHold g.idx { s.hold g.idx with drawnBy := none } else s).setChannel d
        { s.channel d with drawing := none } := by
  unfold State.stopDrawing
  by_cases honoured : s.honoured g = true
  · rw [drawnHold_some drawing honoured, if_pos honoured]
    rfl
  · rw [drawnHold_none (.inr ⟨g, drawing, Bool.eq_false_of_not_eq_true honoured⟩), if_neg honoured]
    rfl

/-- Settles O38: each command accepted and refused, and the end of a drawing. -/
theorem holdReadsAndDrawingComplete : Obligations.HoldReadsAndDrawingComplete := by
  intro s tag handle slot d h e number
  refine ⟨fun hb honoured => ?_, fun hb sound => ?_, fun hb honoured sound bound same undrawn free => ?_,
    fun hb honoured sound => ?_, fun hb => ⟨fun undrawn => ?_, fun g drawing => ?_⟩, stopDrawing_none,
    fun g drawing => stopDrawing_some drawing, fun b hb honoured mismatched => ?_,
    fun b high => ⟨fun hb honoured sound => ?_, fun hb => ?_⟩, fun gone => ⟨fun hb => ?_, fun hb => ?_⟩⟩
  · have served := serve_answer (body := readHoldBody handle) hb (readHoldBody_honoured honoured)
    rw [readHoldResult_eq] at served
    exact served
  · have served := serve_answer (body := listHoldsBody slot) hb (withRecord_sound sound)
    exact served
  · have body := drawHoldBody_named (d := d) honoured sound
    rw [if_neg (boundTo_of bound same), undrawn, if_neg (by simp), free, if_neg (by simp)] at body
    have served := serve_answer (body := drawHoldBody _ handle) hb body
    exact served
  · intro refused
    have body := drawHoldBody_named (d := d) honoured sound
    have row {st : Status} (answer : drawHoldBody number handle s = refuse s st) : refused st := serve_refused hb answer
    refine ⟨fun apart => row (body.trans (if_pos (not_boundTo_of apart))), fun bound same => ?_⟩
    rw [if_neg (boundTo_of bound same)] at body
    refine ⟨fun drawing => row (body.trans (if_pos (Option.isSome_iff_ne_none.mpr drawing))), fun undrawn drawn => ?_⟩
    rw [undrawn, if_neg (by simp)] at body
    exact row (body.trans (if_pos (Option.isSome_iff_ne_none.mpr drawn)))
  · exact serve_refused (body := endDrawBody _) hb (endDrawBody_none undrawn)
  · have body := endDrawBody_some drawing
    rw [stopDrawing_some drawing] at body
    have served := serve_answer (body := endDrawBody _) hb body
    exact served
  · exact serve_answer (body := drawHoldBody b handle) hb (withHold_mismatched honoured mismatched)
  · exact serve_refused (body := drawHoldBody b handle) hb (drawHoldBody_above honoured sound high)
  · exact serve_refused (body := endDrawBody b) hb (withChannel_above high)
  · exact serve_refused (body := readHoldBody handle) hb (readHoldBody_gone gone)
  · exact serve_refused (body := drawHoldBody _ handle) hb (withHold_gone gone)

end Drawing

/-! Freeing (R72). -/

section Freeing

variable {i : Slot} {h : HoldIdx}

theorem endDrawing_channel (s : State) (c : Option Chan) (d : Chan) :
    (s.endDrawing c).channel d = if c = some d then { s.channel d with drawing := none } else s.channel d := by
  cases c with
  | none => rfl
  | some c =>
    show (s.setChannel c _).channel d = _
    rw [setChannel_channel]
    by_cases e : c = d
    · subst e
      simp
    · rw [if_neg e, if_neg fun h => e (Option.some.inj h)]

theorem freeHold_eq (s : State) (i : Slot) (h : HoldIdx) :
    s.freeHold i h = { s with
      accounts := (s.freeHold i h).accounts, holds := (s.freeHold i h).holds, channels := (s.freeHold i h).channels } := by
  unfold State.freeHold State.endDrawing
  dsimp only
  cases (s.hold h).drawnBy <;> rfl

/-- Settles O39: table by table. -/
theorem freeingOfAHold : Obligations.FreeingOfAHold := by
  intro s i h e t
  refine ⟨fun j => ?_, fun k => ?_, fun d => endDrawing_channel _ _ d, freeHold_eq s i h⟩
  · refine (Settling.freeHold_account s i j h).trans ((setAccount_account s i j _).trans ?_)
    exact if_congr eq_comm rfl rfl
  · refine (freeHold_hold s i h k).trans ?_
    exact if_congr eq_comm rfl rfl

end Freeing

/-! Expiry (R78, R79). -/

section Expiring

theorem expire_sound {h : HoldIdx} (sound : s.sound (s.hold h).slot) :
    s.expire h = ((s.freeHold (s.hold h).slot h).raiseAccount (s.hold h).slot Cause.holdExpired).settle (s.hold h).slot := by
  unfold State.expire
  dsimp only
  rw [readRecord_of_sound sound]

theorem expire_mismatched {h : HoldIdx} (mismatched : s.mismatched (s.hold h).slot) :
    s.expire h = s.damage (s.hold h).slot := by
  unfold State.expire
  dsimp only
  rw [readRecord_of_mismatched mismatched]

/-- Settles O40: the request taken in each case, and the last second of a lifetime. -/
theorem holdExpiryRowsComplete : Obligations.HoldExpiryRowsComplete := by
  intro s h run
  refine ⟨fun issued => ?_, fun present held notDue last => ?_⟩
  · intro taken i
    have row : exec (.holdExpiry h) s = .next (if s.honoured h then taken.expire h.idx else taken) :=
      next_congr (if_pos ⟨run, issued⟩)
    refine ⟨fun gone => row.trans (next_congr (if_neg (ne_true_of_eq_false gone))), fun honoured sound => ?_,
      fun honoured mismatched => ?_⟩
    · exact row.trans (next_congr ((if_pos honoured).trans (expire_sound (s := taken) sound)))
    · exact row.trans (next_congr ((if_pos honoured).trans (expire_mismatched (s := taken) mismatched)))
  · have due : (s.hold h.idx).fallsDue = true := by simp [Hold.fallsDue, held, notDue, last]
    have ticked : (s.hold h.idx).tick = { s.hold h.idx with lifetime := 0, expiryDue := true } := by
      simp [Hold.tick, held, notDue, last]
    have row : exec (.holdLifetimeExpiry h.idx) s = .next
        { s.setHold h.idx (s.hold h.idx).tick with expiryRequests := s.expiryRequests ++ [s.handleOf h.idx] } :=
      next_congr (if_pos ⟨secondsRun_iff.mpr ⟨run, present⟩, due⟩)
    rw [ticked] at row
    exact row

end Expiring

/-! The permit commands and outputs. -/

theorem restorePermitBody_bound (bound : (s.channel d).state ≠ .unbound) :
    restorePermitBody (BitVec.ofNat 8 d.val) s =
      let ch := s.channel d
      let after := ({ ch with cutLatch := false, hostCut := false } : Channel).evaluate
      ⟨s.setChannel d after, .ok,
        [after.permit.code, choiceByte ch.cutLatch, choiceByte ch.hostCut, choiceByte ch.emptyMark]⟩ := by
  refine (withBound_ofNat bound).trans ?_
  dsimp only
  rw [evaluate_emptyMark]

/-- Settles O41: each command accepted and refused. -/
theorem permitCommandsComplete : Obligations.PermitCommandsComplete := by
  intro s tag d ch number restore cut
  refine ⟨fun hb bound => ?_, fun hb bound => ?_, fun hb unbound => ?_, fun hb unbound => ?_,
    fun b high => ⟨fun hb => ?_, fun hb => ?_⟩⟩
  · have served := serve_answer (body := restorePermitBody _) hb (restorePermitBody_bound bound)
    exact served
  · have served := serve_answer (body := cutPermitBody _) hb (withBound_ofNat (d := d) bound)
    exact served
  · exact serve_refused (body := restorePermitBody _) hb (withBound_unbound unbound)
  · exact serve_refused (body := cutPermitBody _) hb (withBound_unbound unbound)
  · exact serve_refused (body := restorePermitBody b) hb (withBound_above high)
  · exact serve_refused (body := cutPermitBody b) hb (withBound_above high)

theorem permit_ne_off_iff {p : Permit} : p ≠ .off ↔ p = .on ∨ p = .grace := by
  cases p <;> simp

/-- Settles O44: a permit that stands is ON or GRACE, and R92 gives its channel. -/
theorem permitOutput : Obligations.PermitOutput := by
  intro s c
  have high : s.pmt c = true ↔ s.phase = .run ∧ (s.channel c).permit ≠ .off := by simp [State.pmt]
  rw [high, permit_ne_off_iff]
  refine ⟨Iff.rfl, fun wf driven => ?_⟩
  exact wf.2.1 driven.1 c (permit_ne_off_iff.mpr driven.2)

end Sys2Proof.Proofs.Holds
end

section
/-! Second events, the last seconds of the counters, and the reference clock (R59, R78, R96, R153, R154). -/

namespace Sys2Proof.Proofs.Time

open Sys2Proof.Machine Sys2Proof.Laws Sys2Proof.Proofs.Checks Sys2Proof.Proofs.Invariants Sys2Proof.Proofs.Metering

variable {s : State} {ch : Channel} {d : Chan}

/-! A second event. -/

theorem secondsRun_of (run : s.phase = .run) (present : s.refPresent = true) : s.secondsRun = true :=
  secondsRun_iff.mpr ⟨run, present⟩

theorem not_secondsRun (idle : s.phase ≠ .run ∨ s.refPresent = false) : ¬s.secondsRun = true := by
  rw [secondsRun_iff]
  rintro ⟨run, present⟩
  rcases idle with other | absent
  · exact other run
  · exact Bool.false_ne_true (absent.symm.trans present)

theorem second_eq (running : s.secondsRun = true) : s.second = { s.holdsTick.channelsTick with divider := 0 } :=
  if_pos running

theorem second_idle (idle : ¬s.secondsRun = true) : s.second = s := if_neg idle

theorem fallsDue_iff {e : Hold} : e.fallsDue = true ↔ e.held = true ∧ e.expiryDue = false ∧ e.lifetime = 1 := by
  simp [Hold.fallsDue, and_assoc]

theorem handleOf_eq_iff {h : HoldIdx} {g : Handle} : s.handleOf h = g ↔ h = g.idx ∧ (s.hold g.idx).generation = g.gen := by
  constructor
  · rintro rfl
    exact ⟨rfl, rfl⟩
  · rintro ⟨rfl, gen⟩
    unfold State.handleOf
    rw [gen]

/-- The requests that a second event issues are those of the lifetimes it ends (R78). -/
theorem mem_dueRequests {g : Handle} :
    g ∈ (allHolds.filter (fun h => (s.hold h).fallsDue)).map s.handleOf ↔
      (s.hold g.idx).held = true ∧ (s.hold g.idx).expiryDue = false ∧ (s.hold g.idx).lifetime = 1 ∧
        (s.hold g.idx).generation = g.gen := by
  simp only [List.mem_map, List.mem_filter, fallsDue_iff, handleOf_eq_iff]
  constructor
  · rintro ⟨h, ⟨-, held, notDue, last⟩, rfl, gen⟩
    exact ⟨held, notDue, last, gen⟩
  · rintro ⟨held, notDue, last, gen⟩
    exact ⟨g.idx, ⟨List.mem_finRange _, held, notDue, last⟩, rfl, gen⟩

/-- The Permit Unit and the Meter Channel take the event one after the other (R96, R153). -/
theorem secondTick_cases (first : Bool) (ch : Channel) :
    ch.secondTick first = ch.graceTick.silenceTick ∨ ch.secondTick first = ch.silenceTick.graceTick := by
  unfold Channel.secondTick
  split_ifs
  · exact .inl rfl
  · exact .inr rfl
  · exact .inl rfl

theorem step_idle (queue : s.pending = []) : step s = .next s.refckPeriod := by
  simp only [step, queue]

theorem refckPeriod_running (running : s.secondsRun = true) :
    s.refckPeriod = if s.divider + 1 < Config.refckPerSecond then { s with divider := s.divider + 1 } else s.second :=
  if_pos running

/-- Settles O45: the event's parts, the event that changes nothing, and the period that issues it. -/
theorem secondEventCompletes : Obligations.SecondEventCompletes := by
  refine ⟨fun s run present => ?_, fun s idle => ?_, fun s queue => ⟨fun run present below => ?_, fun run present full => ?_,
    fun idle => ?_⟩⟩
  · refine ⟨_, next_congr (second_eq (secondsRun_of run present)), fun h => ?_, ⟨_, rfl, fun g => mem_dueRequests⟩, fun c => ?_,
      rfl⟩
    · exact mapHolds_hold s (fun _ e => e.tick) h
    · have ticked := mapChannels_channel s.holdsTick (fun c ch => ch.secondTick (Config.silenceFirst s.choice c)) c
      rcases secondTick_cases (Config.silenceFirst s.choice c) (s.channel c) with order | order
      · exact .inl (ticked.trans order)
      · exact .inr (ticked.trans order)
  · exact next_congr (second_idle (not_secondsRun idle))
  · rw [step_idle queue, refckPeriod_running (secondsRun_of run present), if_pos]
    exact Nat.succ_lt_succ below
  · rw [step_idle queue, refckPeriod_running (secondsRun_of run present), if_neg]
    · rfl
    · exact Nat.not_lt.mpr (Nat.succ_le_succ full)
  · rw [step_idle queue]
    exact next_congr (if_neg (not_secondsRun idle))

/-! The counters of one channel. -/

section Ticks

theorem graceTick_counts (grace : ch.permit = .grace) (more : 2 ≤ ch.graceRemaining) :
    ch.graceTick = { ch with graceRemaining := ch.graceRemaining - 1 } :=
  (if_pos grace).trans (if_neg (by omega))

theorem graceTick_ends (grace : ch.permit = .grace) (last : ch.graceRemaining ≤ 1) : ch.graceTick = ch.cut :=
  (if_pos grace).trans (if_pos last)

theorem graceTick_idle (other : ch.permit ≠ .grace) : ch.graceTick = ch := if_neg other

theorem silenceTick_counts (bound : ch.state ≠ .unbound) (on : 0 < ch.silenceTimeout) (more : 2 ≤ ch.silenceCounter) :
    ch.silenceTick = { ch with silenceCounter := ch.silenceCounter - 1 } :=
  (if_pos ⟨bound_iff.mpr bound, on, by omega⟩).trans (if_neg (by omega))

theorem silenceTick_ends (bound : ch.state ≠ .unbound) (on : 0 < ch.silenceTimeout) (last : ch.silenceCounter = 1) :
    ch.silenceTick = (({ ch with silenceCounter := 0, silent := true } : Channel).raise Cause.silent).evaluate :=
  (if_pos ⟨bound_iff.mpr bound, on, by omega⟩).trans (if_pos last)

theorem silenceTick_idle (idle : ch.state = .unbound ∨ ch.silenceTimeout = 0 ∨ ch.silenceCounter = 0) :
    ch.silenceTick = ch := by
  refine if_neg ?_
  rintro ⟨bound, on, counting⟩
  rcases idle with unbound | off | zero
  · exact bound_iff.mp bound unbound
  · omega
  · omega

/-- Settles O46: each counter's cases, then the rows. -/
theorem timerAndReferenceRowsComplete : Obligations.TimerAndReferenceRowsComplete := by
  refine ⟨fun ch => ⟨graceTick_counts, graceTick_ends, graceTick_idle, silenceTick_counts, silenceTick_ends, silenceTick_idle⟩,
    fun s d run present => ⟨fun grace last => ?_, fun last => ?_⟩, fun s powered => ⟨fun present => ?_, ?_⟩⟩
  · exact next_congr (if_pos ⟨secondsRun_of run present, grace, last⟩)
  · exact next_congr (if_pos ⟨secondsRun_of run present, last⟩)
  · exact next_congr (if_pos ⟨powered_iff.mpr powered, present⟩)
  · exact next_congr (if_pos (powered_iff.mpr powered))

end Ticks

end Sys2Proof.Proofs.Time
end

section
/-! The refill commands and the refill attempt (R105 to R113), and the sweep's step (R117 to R121). -/

namespace Sys2Proof.Proofs.Refilling

open Sys2Proof.Machine Sys2Proof.Laws Sys2Proof.Proofs.Checks Sys2Proof.Proofs.NoticeService
open Sys2Proof.Proofs.AccountCommands Sys2Proof.Proofs.Invariants Sys2Proof.Proofs.Metering Sys2Proof.Proofs.ChannelCommands

variable {s : State} {slot pool : Slot} {amount : BitVec 32} {count : Byte}

/-! Specifications and dependents (R106 to R108). -/

theorem dropRefill_none {i : Slot} (absent : (s.account i).refill = none) : s.dropRefill i = s := by
  unfold State.dropRefill
  rw [absent]

theorem dropRefill_some {i : Slot} {r : RefillSpec} (held : (s.account i).refill = some r) :
    s.dropRefill i = (s.setAccount i { s.account i with refill := none }).lowerDependents r.pool := by
  unfold State.dropRefill
  rw [held]
  rfl

theorem lowerDependents_sound {p : Slot} (sound : s.sound p) :
    s.lowerDependents p = s.setAccount p { s.account p with dependents := (s.account p).dependents - 1 } := by
  unfold State.lowerDependents
  rw [readRecord_of_sound sound]

theorem lowerDependents_damaged {p : Slot} (damaged : s.mapState p = .damaged ∨ s.mismatched p) :
    s.lowerDependents p =
      let found := if s.mapState p = .damaged then s else s.damage p
      found.setAccount p { found.account p with dependents := found.specsNaming p } := by
  unfold State.lowerDependents
  rw [readRecord_damagedNow damaged]
  rfl

/-! SET REFILL and CLEAR REFILL. -/

section Commands

variable (sound : s.sound slot) (live : (s.account slot).state = .opened ∨ (s.account slot).state = .frozen)
include sound live

theorem setRefillBody_range (bad : amount.toNat = 0 ∨ 2147483647 < amount.toNat) :
    setRefillBody slot pool amount count s = refuse s .badArgument := (withLive_of sound live).trans (if_pos bad)

theorem setRefillBody_kind (low : 1 ≤ amount.toNat) (high : amount.toNat ≤ 2147483647)
    (other : (s.account slot).kind ≠ .consumer) : setRefillBody slot pool amount count s = refuse s .wrongKind := by
  refine (withLive_of sound live).trans ((if_neg ?_).trans (if_pos other))
  rw [Config.maxAmount]
  omega

/-- A consumer's command then reads the pool it names. -/
theorem setRefillBody_consumer (low : 1 ≤ amount.toNat) (high : amount.toNat ≤ 2147483647)
    (consumer : (s.account slot).kind = .consumer) :
    setRefillBody slot pool amount count s = withRecord pool s fun p =>
      if p.kind ≠ .pool then refuse s .wrongKind
      else if p.state.live = false then refuse s .wrongState
      else
        ⟨s.setRefill slot ⟨pool, amount.toNat, count.toNat⟩, .ok, refillResult (s.account slot).refill
          ++ natField 1 ((s.setRefill slot ⟨pool, amount.toNat, count.toNat⟩).account pool).dependents⟩ := by
  refine (withLive_of sound live).trans ((if_neg ?_).trans (if_neg (not_not_intro consumer)))
  rw [Config.maxAmount]
  omega

theorem clearRefillBody_kind (other : (s.account slot).kind ≠ .consumer) :
    clearRefillBody slot s = refuse s .wrongKind := (withLive_of sound live).trans (if_pos other)

theorem clearRefillBody_consumer (consumer : (s.account slot).kind = .consumer) :
    clearRefillBody slot s =
      match (s.account slot).refill with
      | none => refuse s .wrongState
      | some r => ⟨s.dropRefill slot, .ok, refillResult (some r)⟩ :=
  (withLive_of sound live).trans (if_neg (not_not_intro consumer))

end Commands

theorem live_eq_false_of_retired {a : Account} (retired : a.state = .retired) : a.state.live = false := by
  rw [retired]
  rfl

theorem live_ne_false {a : Account} (live : a.state = .opened ∨ a.state = .frozen) : ¬a.state.live = false :=
  ne_false_of_eq_true (live_iff.mpr live)

/-- Settles O47: the refusals in order, the commands accepted, and what each does to a specification and a count. -/
theorem refillCommandsComplete : Obligations.RefillCommandsComplete := by
  refine ⟨?_, ?_, fun s p => ⟨lowerDependents_sound, lowerDependents_damaged⟩,
    fun s i => ⟨dropRefill_none, fun r => dropRefill_some⟩⟩
  · intro s tag slot pool amount count set clear a refused sound live
    refine ⟨fun hb => ?_, fun hb other => serve_refused (body := clearRefillBody slot) hb (clearRefillBody_kind sound live other)⟩
    have row {st : Status} (h : setRefillBody slot pool amount count s = refuse s st) : refused st := serve_refused hb h
    refine ⟨fun bad => row (setRefillBody_range sound live bad), fun low high =>
      ⟨fun other => row (setRefillBody_kind sound live low high other), fun consumer => ?_⟩⟩
    have body := setRefillBody_consumer (pool := pool) (count := count) sound live low high consumer
    refine ⟨fun free => row (body.trans (withRecord_free free)), fun damaged => row (body.trans (withRecord_damaged damaged)),
      fun mismatched => ?_, fun read other => row (body.trans ((withRecord_sound read).trans (if_pos other))),
      fun read isPool retired => row (body.trans ((withRecord_sound read).trans ((if_neg (not_not_intro isPool)).trans
        (if_pos (live_eq_false_of_retired retired)))))⟩
    exact serve_answer (body := setRefillBody slot pool amount count) hb (body.trans (withRecord_mismatched mismatched))
  · intro s tag slot pool amount count set clear a sound live consumer
    refine ⟨fun hb low high read isPool poolLive => ?_, fun hb r held => ?_, fun hb absent => ?_⟩
    · intro bare specified t
      have dropped : s.dropRefill slot = bare := by
        cases held : a.refill with
        | none =>
          simp only [bare, held]
          exact dropRefill_none held
        | some r =>
          simp only [bare, held]
          exact dropRefill_some held
      have done : s.setRefill slot ⟨pool, amount.toNat, count.toNat⟩ = t := by
        unfold State.setRefill
        rw [dropped]
        rfl
      have body := setRefillBody_consumer (pool := pool) (count := count) sound live low high consumer
      rw [withRecord_sound read, if_neg (not_not_intro isPool), if_neg (live_ne_false poolLive), done] at body
      have served := serve_answer (body := setRefillBody slot pool amount count) hb body
      exact served
    · have body := clearRefillBody_consumer sound live consumer
      rw [held, dropRefill_some held] at body
      have served := serve_answer (body := clearRefillBody slot) hb body
      exact served
    · have body := clearRefillBody_consumer sound live consumer
      rw [absent] at body
      exact serve_refused (body := clearRefillBody slot) hb body

/-! The refill attempt. -/

section Attempt

variable {i : Slot} {r : RefillSpec}

theorem refillAttempt_opened (sound : s.sound r.pool) (opened : (s.account r.pool).state = .opened) :
    s.refillAttempt i r =
      if min r.amount (s.account i).headroom = 0 then s
      else if (s.account r.pool).spendable < (min r.amount (s.account i).headroom : Nat) then
        (s.raiseAccount i Cause.refillFailed).raiseAccount r.pool Cause.poolShort
      else
        (s.modifyAccount r.pool (fun p => (p.debit (min r.amount (s.account i).headroom)).evaluate)).modifyAccount i
          (Account.refilled r (min r.amount (s.account i).headroom)) := by
  unfold State.refillAttempt
  rw [readRecord_of_sound sound]
  exact if_pos opened

theorem refillAttempt_closed (sound : s.sound r.pool) (closed : (s.account r.pool).state ≠ .opened) :
    s.refillAttempt i r = s.raiseAccount i Cause.refillFailed := by
  unfold State.refillAttempt
  rw [readRecord_of_sound sound]
  exact if_neg closed

theorem refillAttempt_damaged (damaged : s.mapState r.pool = .damaged ∨ s.mismatched r.pool) :
    s.refillAttempt i r =
      (if s.mapState r.pool = .damaged then s else s.damage r.pool).raiseAccount i Cause.refillFailed := by
  unfold State.refillAttempt
  rw [readRecord_damagedNow damaged]

/-- The consumer after a transfer, its limited count lowered and REFILLS_SPENT raised with the last one (R112). -/
theorem refilled_eq (r : RefillSpec) (n : Nat) (a : Account) :
    a.refilled r n =
      let credited : Account := { a with balance := a.balance + n, credited := min (a.credited + n) 281474976710655 }
      if r.count = 255 then credited
      else
        { credited with
          refill := some { r with count := r.count - 1 },
          notice := { a.notice with
            pending := if r.count = 1 then a.notice.pending ||| Cause.refillsSpent else a.notice.pending } } := by
  unfold Account.refilled
  refine if_congr Iff.rfl rfl ?_
  by_cases last : r.count = 1
  · rw [if_pos last, if_pos last]
    rfl
  · rw [if_neg last, if_neg last]
    rfl

/-- Settles O48: one clause for each outcome. -/
theorem refillAttemptOutcomes : Obligations.RefillAttemptOutcomes := by
  intro s i r p n caused
  refine ⟨fun sound opened => ⟨fun none => ?_, fun some' short => ?_, fun some' enough => ?_⟩, refillAttempt_closed,
    fun damaged => ?_, fun mismatched => ?_⟩
  · exact (refillAttempt_opened sound opened).trans (if_pos none)
  · exact (refillAttempt_opened sound opened).trans ((if_neg some').trans (if_pos short))
  · intro paid a credited
    have moved := (refillAttempt_opened sound opened).trans ((if_neg some').trans (if_neg (Int.not_lt.mpr enough)))
    rw [State.modifyAccount, State.modifyAccount, refilled_eq] at moved
    exact moved
  · have failed := refillAttempt_damaged (i := i) (.inl damaged)
    rw [if_pos damaged] at failed
    exact failed
  · have failed := refillAttempt_damaged (i := i) (.inr mismatched)
    rw [if_neg mismatched.2.1] at failed
    exact failed

end Attempt

/-! The sweep's step. -/

section Sweeping

variable {i : Slot}

theorem selects_iff {sel : Selector} {cls : Nat} : sel.selects cls = true ↔ ∀ n, sel = .cls n → cls = n.val := by
  cases sel with
  | all => simp [Selector.selects]
  | cls m => simp [Selector.selects]

theorem appliesTo_iff {w : Sweep} {a : Account} : w.appliesTo a = true ↔
    a.kind = .consumer ∧ (a.state = .opened ∨ a.state = .frozen) ∧ (∀ n, w.selector = .cls n → a.cls = n.val) ∧
      a.lastSweep ≠ w.number := by
  rw [← selects_iff, ← live_iff]
  simp [Sweep.appliesTo, and_assoc]

/-- The cursor past slot `i`, over a state whose sweep differs from `w` in the changed count alone. -/
theorem advanceSweep_eq {u : State} {w : Sweep} {changed : Nat} (sweep : u.sweep = { w with changed := changed })
    (cursor : w.cursor = i.val) :
    u.advanceSweep =
      if i.val < 255 then { u with sweep := { w with cursor := i.val + 1, changed := changed } }
      else
        { u with
          sweep := { w with cursor := 256, changed := changed, state := .idle, ending := .done },
          device := { u.device with pending := u.device.pending ||| Cause.sweepDone } } := by
  have last := i.isLt
  unfold State.advanceSweep
  rw [sweep]
  dsimp only
  rw [cursor]
  by_cases more : i.val < 255
  · rw [if_pos more, if_pos (by omega)]
  · have top : i.val + 1 = 256 := by omega
    rw [if_neg more, if_neg (by omega), top]
    rfl

/-- The same after one account changed, over the state `q` with that account written. -/
theorem advanceSweep_counted {q : State} {w : Sweep} (sweep : q.sweep = w) (cursor : w.cursor = i.val) :
    ({ q with sweep := { q.sweep with changed := q.sweep.changed + 1 } } : State).advanceSweep =
      if i.val < 255 then { q with sweep := { w with cursor := i.val + 1, changed := w.changed + 1 } }
      else
        { q with
          sweep := { w with cursor := 256, changed := w.changed + 1, state := .idle, ending := .done },
          device := { q.device with pending := q.device.pending ||| Cause.sweepDone } } := by
  subst sweep
  exact advanceSweep_eq rfl cursor

theorem sweepStep_exec (run : s.phase = .run) (running : s.sweep.state = .running) (cursor : s.sweep.cursor = i.val) :
    exec .sweepStep s = .next (s.stepSlot i).advanceSweep := by
  have below : s.sweep.cursor < 256 := cursor ▸ i.isLt
  have place : Fin.ofNat 256 s.sweep.cursor = i := Fin.ext ((Nat.mod_eq_of_lt below).trans cursor)
  have row : exec .sweepStep s = .next (s.stepSlot (Fin.ofNat 256 s.sweep.cursor)).advanceSweep :=
    next_congr (if_pos (stepOutstanding_iff.mpr ⟨run, running, below⟩))
  rwa [place] at row

theorem stepSlot_sound (sound : s.sound i) :
    s.stepSlot i = if s.sweep.appliesTo (s.account i) = true then s.applySweep i else s := by
  unfold State.stepSlot
  rw [readRecord_of_sound sound]

theorem stepSlot_free (free : s.mapState i = .free) : s.stepSlot i = s := by
  unfold State.stepSlot
  rw [readRecord_free free]

theorem stepSlot_damaged (damaged : s.mapState i = .damaged ∨ s.mismatched i) :
    s.stepSlot i = if s.mapState i = .damaged then s else s.damage i := by
  unfold State.stepSlot
  rw [readRecord_damagedNow damaged]

/-- Settles O50: the step on each kind of slot, with the cursor advanced over what it leaves. -/
theorem sweepStepCompletes : Obligations.SweepStepCompletes := by
  intro s run running i cursor w a selected applies advanced
  rw [sweepStep_exec run running cursor]
  refine ⟨fun sound yes => ?_, fun sound no => ?_, fun unread => ?_, fun mismatched => ?_⟩
  · intro moved settled marked
    rw [stepSlot_sound sound, if_pos (appliesTo_iff.mpr yes)]
    have outside : SameOutside s marked :=
      ((setAccount_outside s i moved).trans (settle_outside _ i)).trans (setAccount_outside _ i _)
    have applied : s.applySweep i = { marked with sweep := { marked.sweep with changed := marked.sweep.changed + 1 } } := rfl
    rw [applied]
    exact next_congr (advanceSweep_counted outside.sweep cursor)
  · rw [stepSlot_sound sound, if_neg fun yes => no (appliesTo_iff.mp yes)]
    exact next_congr (advanceSweep_eq rfl cursor)
  · have skipped : s.stepSlot i = s := by
      rcases unread with free | damaged
      · exact stepSlot_free free
      · exact (stepSlot_damaged (.inl damaged)).trans (if_pos damaged)
    rw [skipped]
    exact next_congr (advanceSweep_eq rfl cursor)
  · rw [stepSlot_damaged (.inr mismatched), if_neg mismatched.2.1]
    exact next_congr (advanceSweep_eq rfl cursor)

end Sweeping

end Sys2Proof.Proofs.Refilling
end

section
/-! SET NOTICE, NOTICES ON, NOTICES OFF, READ PENDING and CLEAR CAUSES (R126, R134, R139 to R143). -/

namespace Sys2Proof.Proofs.NoticeSettings

open Sys2Proof.Machine Sys2Proof.Laws Sys2Proof.Proofs.Checks Sys2Proof.Proofs.NoticeService
open Sys2Proof.Proofs.AccountCommands

variable {s : State} {src : Source} {source mask causes : BitVec 16} {level group enable : Byte}

/-! Source numbers (R126). -/

theorem number_lt (src : Source) : src.number < 2 ^ 16 := by
  cases src with
  | device => decide
  | channel c => exact Nat.add_lt_add_left (c.isLt.trans (by decide : 8 < 65280)) 256
  | account i => exact Nat.add_lt_add_left (i.isLt.trans (by decide : 256 < 65024)) 512
  | fault => decide

theorem toNat_number (src : Source) : (BitVec.ofNat 16 src.number).toNat = src.number := by
  rw [BitVec.toNat_ofNat, Nat.mod_eq_of_lt (number_lt src)]

theorem ofNumber_channel {c : Chan} (value : source.toNat = 0x0100 + c.val) :
    Source.ofNumber source = some (.channel c) := by
  have below := c.isLt
  have same : Fin.ofNat 8 (source.toNat - 0x0100) = c := Fin.ext (by rw [Fin.val_ofNat]; omega)
  unfold Source.ofNumber
  dsimp only
  rw [if_neg (by omega), if_pos (by omega), same]

theorem ofNumber_account {i : Slot} (value : source.toNat = 0x0200 + i.val) :
    Source.ofNumber source = some (.account i) := by
  have below := i.isLt
  have same : Fin.ofNat 256 (source.toNat - 0x0200) = i := Fin.ext (by rw [Fin.val_ofNat]; omega)
  unfold Source.ofNumber
  dsimp only
  rw [if_neg (by omega), if_neg (by omega), if_pos (by omega), same]

theorem ofNumber_number (src : Source) : Source.ofNumber (BitVec.ofNat 16 src.number) = some src := by
  cases src with
  | device | fault => rfl
  | channel c => exact ofNumber_channel (toNat_number _)
  | account i => exact ofNumber_account (toNat_number _)

theorem ofNumber_unlisted (unlisted : ∀ src : Source, source ≠ BitVec.ofNat 16 src.number) :
    Source.ofNumber source = none := by
  have differs (src : Source) {n : Nat} (number : src.number = n) : source.toNat ≠ n := fun same =>
    unlisted src (by rw [number, ← same, BitVec.ofNat_toNat, BitVec.setWidth_eq])
  have no_channel : ¬(0x0100 ≤ source.toNat ∧ source.toNat ≤ 0x0107) := fun ⟨low, high⟩ =>
    differs (.channel ⟨source.toNat - 0x0100, by omega⟩) (n := 0x0100 + (source.toNat - 0x0100)) rfl (by omega)
  have no_account : ¬(0x0200 ≤ source.toNat ∧ source.toNat ≤ 0x02FF) := fun ⟨low, high⟩ =>
    differs (.account ⟨source.toNat - 0x0200, by omega⟩) (n := 0x0200 + (source.toNat - 0x0200)) rfl (by omega)
  unfold Source.ofNumber
  dsimp only
  rw [if_neg (differs .device (n := 0x0000) rfl), if_neg no_channel, if_neg no_account,
    if_neg (differs .fault (n := 0xFFFF) rfl)]

theorem accepts_iff : src.accepts causes = true ↔ causes &&& ~~~src.causeBits = 0 := beq_iff_eq

theorem accepts_eq_false_iff : src.accepts causes = false ↔ causes &&& ~~~src.causeBits ≠ 0 := beq_eq_false_iff_ne

theorem choiceByte_decide (p : Prop) [Decidable p] : choiceByte (decide p) = if p then 0x01 else 0x00 := by
  simp only [choiceByte, decide_eq_true_eq]

/-! The source a command names (R134). -/

theorem withSource_sound {k : Reply} (sound : ∀ i, src = .account i → s.sound i) : withSource src s k = k := by
  cases src with
  | account i => exact withRecord_sound (sound i rfl)
  | device | channel c | fault => rfl

theorem setNoticeBody_unlisted (unlisted : Source.ofNumber source = none) :
    setNoticeBody source level group mask enable s = refuse s .badArgument := by
  rw [setNoticeBody, unlisted]

theorem setNoticeBody_fault : setNoticeBody 0xFFFF level group mask enable s = refuse s .badArgument := rfl

theorem setNoticeBody_source (other : src ≠ .fault) :
    setNoticeBody (BitVec.ofNat 16 src.number) level group mask enable s =
      withSource src s (setNoticeOn src level group mask enable s) := by
  rw [setNoticeBody, ofNumber_number]
  cases src with
  | fault => exact absurd rfl other
  | device | channel c | account i => rfl

theorem readPendingBody_unlisted (unlisted : Source.ofNumber source = none) :
    readPendingBody source s = refuse s .badArgument := by
  rw [readPendingBody, unlisted]

theorem readPendingBody_source (other : src ≠ .fault) :
    readPendingBody (BitVec.ofNat 16 src.number) s = withSource src s ⟨s, .ok, readPendingResult src s⟩ := by
  rw [readPendingBody, ofNumber_number]
  cases src with
  | fault => exact absurd rfl other
  | device | channel c | account i => rfl

theorem clearCausesBody_unlisted (unlisted : Source.ofNumber source = none) :
    clearCausesBody source causes s = refuse s .badArgument := by
  rw [clearCausesBody, unlisted]

theorem clearCausesBody_source :
    clearCausesBody (BitVec.ofNat 16 src.number) causes s =
      withSource src s
        (if src.accepts causes = false then refuse s .badArgument
         else if src = .fault then clearFaults causes s else clearSource src causes s) := by
  rw [clearCausesBody, ofNumber_number]
  cases src with
  | device | channel c | account i | fault => rfl

/-- What the checks of R134 answer, for a command whose block reads the account that its source number names. -/
theorem source_refusals {c : Instr} {body : State → Reply} (served : exec c s = serve c.frame body s) (hb : s.atBlock c)
    (unlisted : Source.ofNumber source = none → body s = refuse s .badArgument)
    (reads : ∀ i : Slot, source = BitVec.ofNat 16 (Source.account i).number → ∃ r : Reply, body s = withRecord i s fun _ => r) :
    ((∀ src : Source, source ≠ BitVec.ofNat 16 src.number) → exec c s = .next (s.readied c.frame .badArgument [])) ∧
    (∀ i : Slot, source = BitVec.ofNat 16 (Source.account i).number →
      (s.mapState i = .free → exec c s = .next (s.readied c.frame .notFound [])) ∧
      (s.mapState i = .damaged → exec c s = .next (s.readied c.frame .damaged [])) ∧
      (s.mismatched i → exec c s = .next ((s.damage i).readied c.frame .damaged []))) := by
  rw [served]
  refine ⟨fun none => serve_refused hb (unlisted (ofNumber_unlisted none)), fun i named => ?_⟩
  obtain ⟨r, read⟩ := reads i named
  exact ⟨fun free => serve_refused hb (read.trans (withRecord_free free)),
    fun damaged => serve_refused hb (read.trans (withRecord_damaged damaged)),
    fun mismatched => serve_answer hb (read.trans (withRecord_mismatched mismatched))⟩

/-! SET NOTICE (R139). -/

theorem setNoticeOn_good (low : level.toNat ≤ 15) (grouped : group.toNat ≤ 3) (masked : mask &&& ~~~src.causeBits = 0)
    (listed : enable = 0 ∨ enable = 1) :
    setNoticeOn src level group mask enable s =
      ⟨s.setNoticeOf src
          ⟨Fin.ofNat 16 level.toNat, Fin.ofNat 4 group.toNat, mask, decide (enable = 1), (s.noticeOf src).pending⟩, .ok,
        [BitVec.ofNat 8 (s.noticeOf src).level.val, BitVec.ofNat 8 (s.noticeOf src).group.val]
          ++ leBytes 2 (s.noticeOf src).mask.toNat ++ [if (s.noticeOf src).enable then 0x01 else 0x00]⟩ := by
  have accepted := accepts_iff.mpr masked
  rw [setNoticeOn, choiceArg_of_listed listed]
  refine if_neg ?_
  rintro (above | above | refused)
  · omega
  · omega
  · exact Bool.noConfusion (accepted.symm.trans refused)

theorem setNoticeOn_bad
    (bad : 15 < level.toNat ∨ 3 < group.toNat ∨ mask &&& ~~~src.causeBits ≠ 0 ∨ (enable ≠ 0 ∧ enable ≠ 1)) :
    setNoticeOn src level group mask enable s = refuse s .badArgument := by
  by_cases listed : enable = 0 ∨ enable = 1
  · have unlisted : ¬(enable ≠ 0 ∧ enable ≠ 1) := fun both => listed.elim both.1 both.2
    rw [setNoticeOn, choiceArg_of_listed listed]
    refine if_pos ?_
    rw [accepts_eq_false_iff]
    tauto
  · rw [setNoticeOn, choiceArg_of_unlisted (not_or.mp listed)]

/-! READ PENDING and CLEAR CAUSES (R142, R143). -/

theorem readPendingResult_eq (src : Source) (s : State) :
    readPendingResult src s =
      [BitVec.ofNat 8 (s.noticeOf src).level.val, BitVec.ofNat 8 (s.noticeOf src).group.val]
        ++ leBytes 2 (s.noticeOf src).mask.toNat ++ [if (s.noticeOf src).enable then 0x01 else 0x00]
        ++ leBytes 2 (s.noticeOf src).pending.toNat
        ++ [if s.requesting src then 0x01 else 0x00, if s.winner = some src then 0x01 else 0x00] := by
  unfold readPendingResult
  rw [choiceByte_decide]
  rfl

theorem clearCausesBody_bad (sound : ∀ i, src = .account i → s.sound i) (bad : causes &&& ~~~src.causeBits ≠ 0) :
    clearCausesBody (BitVec.ofNat 16 src.number) causes s = refuse s .badArgument :=
  clearCausesBody_source.trans ((withSource_sound sound).trans (if_pos (accepts_eq_false_iff.mpr bad)))

theorem clearCausesBody_good (sound : ∀ i, src = .account i → s.sound i) (good : causes &&& ~~~src.causeBits = 0) :
    clearCausesBody (BitVec.ofNat 16 src.number) causes s =
      if src = .fault then clearFaults causes s else clearSource src causes s :=
  clearCausesBody_source.trans ((withSource_sound sound).trans
    (if_neg fun refused => accepts_eq_false_iff.mp refused good))

/-- Settles O51: the refusals of R134 once for the three commands, then each command on a source that passes them. -/
theorem noticeSettingsComplete : Obligations.NoticeSettingsComplete := by
  refine ⟨?_, ?_, fun s tag => ⟨fun hb => serve_answer (body := setEnableBody true) hb rfl,
    fun hb => serve_answer (body := setEnableBody false) hb rfl⟩, ?_⟩
  · intro s c tag level group enable source mask causes named hb
    rcases named with rfl | rfl | rfl
    · obtain ⟨none, reads⟩ := source_refusals (body := setNoticeBody source level group mask enable) rfl hb
        setNoticeBody_unlisted fun i named => ⟨_, named ▸ setNoticeBody_source (src := .account i) Source.noConfusion⟩
      refine ⟨none, fun _ fault => serve_refused (body := setNoticeBody source level group mask enable) hb ?_, reads⟩
      rw [fault]
      exact setNoticeBody_fault
    · obtain ⟨none, reads⟩ := source_refusals (body := readPendingBody source) rfl hb readPendingBody_unlisted
        fun i named => ⟨_, named ▸ readPendingBody_source (src := .account i) Source.noConfusion⟩
      exact ⟨none, fun other => Instr.noConfusion other, reads⟩
    · obtain ⟨none, reads⟩ := source_refusals (body := clearCausesBody source causes) rfl hb clearCausesBody_unlisted
        fun i named => ⟨_, named ▸ clearCausesBody_source (src := .account i)⟩
      exact ⟨none, fun other => Instr.noConfusion other, reads⟩
  · intro s tag level group enable mask src c n hb other sound
    have body := (setNoticeBody_source (s := s) (level := level) (group := group) (mask := mask) (enable := enable) other).trans
      (withSource_sound sound)
    refine ⟨fun low grouped masked listed => ?_, fun bad => serve_refused (body := setNoticeBody _ level group mask enable) hb
      (body.trans (setNoticeOn_bad bad))⟩
    have served := serve_answer (body := setNoticeBody _ level group mask enable) hb
      (body.trans (setNoticeOn_good low grouped masked listed))
    exact served
  · intro s tag src causes sound read clear n f
    refine ⟨fun hb other => ?_, fun hb fault => ?_, fun hb bad => ?_, fun hb good => ⟨fun other => ?_, fun fault => ?_⟩⟩
    · have body := (readPendingBody_source (s := s) other).trans (withSource_sound sound)
      rw [readPendingResult_eq] at body
      exact serve_answer (body := readPendingBody _) hb body
    · subst fault
      exact serve_answer (body := readPendingBody _) hb rfl
    · exact serve_refused (body := clearCausesBody _ causes) hb (clearCausesBody_bad sound bad)
    · have body := (clearCausesBody_good sound good).trans (if_neg other)
      exact serve_answer (body := clearCausesBody _ causes) hb body
    · have body := (clearCausesBody_good sound good).trans (if_pos fault)
      exact serve_answer (body := clearCausesBody _ causes) hb body

end Sys2Proof.Proofs.NoticeSettings
end

section
/-! What a check word mismatch changes, and REBUILD ACCOUNT, NEXT DAMAGED and DISCARD ACCOUNT (R102, R147, R150 to R152). -/

namespace Sys2Proof.Proofs.Integrity

open Sys2Proof.Machine Sys2Proof.Laws Sys2Proof.Proofs.Checks Sys2Proof.Proofs.NoticeService
open Sys2Proof.Proofs.AccountCommands Sys2Proof.Proofs.Invariants Sys2Proof.Proofs.ChannelCommands

variable {s : State} {i slot : Slot}

/-! Damage (R147). -/

theorem against_iff {e : Hold} : e.against i = true ↔ e.held = true ∧ e.slot = i := by
  simp [Hold.against]

theorem drawsAgainst_iff {d : Chan} : s.drawsAgainst i d = true ↔
    ∃ h, (s.hold h).held = true ∧ (s.hold h).slot = i ∧ (s.hold h).drawnBy = some d := by
  unfold State.drawsAgainst
  rw [Vector.any_eq_true]
  constructor
  · rintro ⟨n, below, draws⟩
    obtain ⟨against, drawn⟩ := Bool.and_eq_true_iff.mp draws
    obtain ⟨held, same⟩ := against_iff.mp against
    exact ⟨⟨n, below⟩, held, same, of_decide_eq_true drawn⟩
  · rintro ⟨h, held, same, drawn⟩
    exact ⟨h.val, h.isLt, Bool.and_eq_true_iff.mpr ⟨against_iff.mpr ⟨held, same⟩, decide_eq_true drawn⟩⟩

/-- In RUN a LIVE channel of the account is parked (R147 step 3). -/
theorem parkDamaged_running (ch : Channel) :
    (if ch.boundTo i then ch.parkDamaged true else ch) =
      if ch.state = .live ∧ ch.slot = i then
        { ch with state := .parked, permit := .off, graceRemaining := if ch.permit = .off then ch.graceRemaining else 0 }
      else ch := by
  have park : ch.parkDamaged true = _ := Lifecycle.park_eq ch
  by_cases same : ch.slot = i
  · by_cases live : ch.state = .live
    · have bound : ch.boundTo i = true := boundTo_iff.mpr ⟨by simp [live], same⟩
      rw [if_pos bound, park, if_pos live, if_pos (And.intro live same)]
    · rw [park, if_neg live, ite_self, if_neg fun both => live both.1]
  · rw [if_neg fun bound => same (boundTo_iff.mp bound).2, if_neg fun both => same both.2]

/-- During the start check every channel of the account has its permit OFF (R102). -/
theorem parkDamaged_starting (ch : Channel) :
    (if ch.boundTo i then ch.parkDamaged false else ch) =
      if ch.state ≠ .unbound ∧ ch.slot = i then { ch with state := .parked, permit := .off, graceRemaining := 0 } else ch :=
  if_congr boundTo_iff rfl rfl

/-- Settles O54: each table as the laws of damage read it, and the rest as `SameOutside` has it. -/
theorem damageConsequences : Obligations.DamageConsequences := by
  intro s i t
  refine ⟨fun j => ?_, fun j => ?_, fun h => ?_, fun d => ?_, rfl, Settling.eq_of_outside (damage_outside s i)⟩
  · exact (damage_pair s i j).trans (if_congr eq_comm rfl rfl)
  · exact (damage_account s i j).trans (if_congr eq_comm rfl rfl)
  · exact (damage_hold s i h).trans (if_congr against_iff rfl rfl)
  · intro ch undrawn
    have found : t.channel d = if undrawn.boundTo i then undrawn.parkDamaged s.noticesLive else undrawn := by
      have same : (if s.drawsAgainst i d = true then { ch with drawing := none } else ch) = undrawn :=
        if_congr drawsAgainst_iff rfl rfl
      rw [damage_channel, State.damageChannel, same]
    have fields : undrawn.state = ch.state ∧ undrawn.slot = ch.slot ∧ undrawn.permit = ch.permit ∧
        undrawn.graceRemaining = ch.graceRemaining := by
      simp only [undrawn]
      split_ifs
      · exact ⟨rfl, rfl, rfl, rfl⟩
      · exact ⟨rfl, rfl, rfl, rfl⟩
    obtain ⟨state, place, permit, grace⟩ := fields
    refine ⟨fun run => ?_, fun starting => ?_⟩
    · have live : s.noticesLive = true := decide_eq_true run
      rw [found, live, parkDamaged_running, state, place, permit, grace]
    · have dead : s.noticesLive = false := decide_eq_false fun run => Phase.noConfusion (run.symm.trans starting)
      rw [found, dead, parkDamaged_starting, state, place]

/-! How the pool that a damaged record's specification names is read (R151, R152, log 19). -/

/-- The slot holds a POOL in OPEN, FROZEN or DAMAGED. -/
def HoldsPool (s : State) (p : Slot) : Prop :=
  (s.mapState p = .damaged ∨ (s.sound p ∧ ((s.account p).state = .opened ∨ (s.account p).state = .frozen))) ∧
    (s.account p).kind = .pool

section Pools

variable {p : Slot}

theorem readPool_of_damaged (damaged : s.mapState p = .damaged) : s.readPool p = (s, decide ((s.account p).kind = .pool)) := by
  unfold State.readPool
  rw [readRecord_damaged damaged]

theorem readPool_of_sound (sound : s.sound p) :
    s.readPool p = (s, decide ((s.account p).kind = .pool) && (s.account p).state.live) := by
  unfold State.readPool
  rw [readRecord_of_sound sound]

theorem readPool_named (names : HoldsPool s p) : s.readPool p = (s, true) := by
  obtain ⟨damaged | ⟨sound, live⟩, pool⟩ := names
  · rw [readPool_of_damaged damaged, decide_eq_true pool]
  · rw [readPool_of_sound sound, decide_eq_true pool, live_iff.mpr live]
    rfl

theorem readPool_unnamed (unnamed : ¬HoldsPool s p) (agrees : ¬s.mismatched p) : s.readPool p = (s, false) := by
  obtain free | damaged | sound | mismatched := lookup_cases s p
  · unfold State.readPool
    rw [readRecord_free free]
  · rw [readPool_of_damaged damaged, decide_eq_false fun pool => unnamed ⟨.inl damaged, pool⟩]
  · rw [readPool_of_sound sound]
    refine congrArg (Prod.mk s) (Bool.eq_false_iff.mpr fun both => ?_)
    obtain ⟨pool, live⟩ := Bool.and_eq_true_iff.mp both
    exact unnamed ⟨.inr ⟨sound, live_iff.mp live⟩, of_decide_eq_true pool⟩
  · exact absurd mismatched agrees

theorem readPool_fst : (s.readPool p).1 = (s.readRecord p).1 := by
  unfold State.readPool
  split
  all_goals
    rename_i found
    rw [found]

/-- A read of another record leaves the slot's pair. -/
theorem readRecord_pair_other (other : p ≠ i) : (s.readRecord p).1.pair i = s.pair i := by
  unfold State.readRecord
  split_ifs
  · rfl
  · rfl
  · rfl
  · exact (damage_pair s p i).trans (if_neg other)

theorem lowerDependents_pair_other (other : p ≠ i) : (s.lowerDependents p).pair i = s.pair i := by
  have read := readRecord_pair_other (s := s) other
  unfold State.lowerDependents
  split
  all_goals
    rename_i found
    rw [found] at read
    exact read

end Pools

/-! The specification that a rebuilt record keeps. -/

section Rebuilt

variable {u : State} {kind : Kind} {r : RefillSpec}

theorem rebuiltRefill_own (own : r.pool = slot) : u.rebuiltRefill slot kind (some r) = (u, none) := if_pos own

theorem rebuiltRefill_named (other : r.pool ≠ slot) (names : HoldsPool u r.pool) :
    u.rebuiltRefill slot kind (some r) =
      if kind = .consumer ∧ 1 ≤ r.amount ∧ r.amount ≤ 2147483647 then (u, some r) else (u.lowerDependents r.pool, none) := by
  refine (if_neg other).trans ?_
  rw [readPool_named names]
  rfl

theorem rebuiltRefill_unnamed (other : r.pool ≠ slot) (unnamed : ¬HoldsPool u r.pool) (agrees : ¬u.mismatched r.pool) :
    u.rebuiltRefill slot kind (some r) = (u, none) := by
  refine (if_neg other).trans ?_
  rw [readPool_unnamed unnamed agrees]
  rfl

theorem rebuiltRefill_pair {asRead : Option RefillSpec} : (u.rebuiltRefill slot kind asRead).1.pair slot = u.pair slot := by
  cases asRead with
  | none => rfl
  | some r =>
    unfold State.rebuiltRefill
    by_cases own : r.pool = slot
    · dsimp only
      rw [if_pos own]
    · have read : (u.readPool r.pool).1.pair slot = u.pair slot := by
        rw [readPool_fst, readRecord_pair_other own]
      dsimp only
      rw [if_neg own]
      split_ifs
      · exact read
      · exact (lowerDependents_pair_other own).trans read
      · exact read

theorem rebuiltKind_eq (bound naming : Nat) (asRead : Kind) :
    rebuiltKind bound naming asRead =
      if 0 < bound then .consumer else if 0 < naming then .pool else if asRead = .pool then .pool else .consumer := by
  cases asRead with
  | consumer | pool | corrupt => rfl

theorem rebuilt_eq (tag : BitVec 32) (kind : Kind) (balance floor lowMark ceiling : Int)
    (charged credited lastSweep bound naming : Nat) (refill : Option RefillSpec) (a : Account) :
    Account.rebuilt tag kind balance floor lowMark ceiling charged credited lastSweep bound naming refill a =
      { state := .frozen, tag := tag, kind := kind, cls := if 15 < a.cls then 0 else a.cls, balance := balance,
        floor := floor, lowMark := lowMark, ceiling := ceiling, heldTotal := 0, holdList := [],
        bindingCount := bound, refill := refill, dependents := if kind = .pool then naming else 0, charged := charged,
        credited := credited, clamped := false, overrun := false, low := decide (balance ≤ lowMark),
        empty := decide (balance ≤ floor), lastSweep := lastSweep, notice := ⟨0, 0, 0, false, 0⟩, syndrome := 0 } := by
  simp [Account.rebuilt, Account.lowNow, Account.emptyNow, Account.freeBalance, Account.zero, NoticeRec.zero]

end Rebuilt

/-! NEXT DAMAGED (R150). -/

theorem nextDamagedFrom_eq_some {j : Slot} (above : slot ≤ j) (damaged : s.mapState j = .damaged)
    (lowest : ∀ k, slot ≤ k → k < j → s.mapState k ≠ .damaged) : s.nextDamagedFrom slot = some j := by
  unfold State.nextDamagedFrom allSlots
  rw [List.find?_eq_some_iff_getElem]
  refine ⟨by simpa [damaged] using above, j.val, by simp, by simp, fun k lower => ?_⟩
  simpa [or_iff_not_imp_left] using fun above : slot.val ≤ k => lowest ⟨k, by omega⟩ above lower

theorem nextDamagedFrom_eq_none (absent : ∀ j, slot ≤ j → s.mapState j ≠ .damaged) : s.nextDamagedFrom slot = none := by
  unfold State.nextDamagedFrom
  rw [List.find?_eq_none]
  intro j _
  simpa using absent j

theorem mapTag_of_pair {p : MapPair} (held : s.pair slot = some p) : s.mapTag slot = p.tag := by
  unfold State.mapTag
  rw [held]

theorem not_free_of_damaged (damaged : s.mapState slot = .damaged) : s.mapState slot ≠ .free := by
  rw [damaged]
  exact LifeState.noConfusion

/-- Settles O55: the refusal of bad limits, the record written, the specification by the pool it names, and the search. -/
theorem rebuildAndNextDamagedComplete : Obligations.RebuildAndNextDamagedComplete := by
  refine ⟨?_, ?_, ?_, ?_⟩
  · intro s tag last slot balance ceiling floor lowMark charged credited c hb damaged bad
    refine serve_refused (body := rebuildAccountBody slot balance floor lowMark ceiling charged credited last) hb ?_
    exact (if_neg (not_free_of_damaged damaged)).trans ((if_neg (not_not_intro damaged)).trans
      (if_pos (bad.imp_left limitsValid_eq_false_iff.mpr)))
  · intro s tag last slot balance ceiling floor lowMark charged credited p c a hb held damagedPair
      floorLow floorMark markCeiling ceilingHigh within bare bound naming kind kept low empty dependents record
    have damaged : s.mapState slot = .damaged := (AccountReads.mapState_of_pair held).trans damagedPair
    have valid : ¬(limitsValid floor.toInt lowMark.toInt ceiling.toInt = false ∨ ceiling.toInt < balance.toInt) := by
      rintro (invalid | exceeds)
      · exact limitsValid_eq_false_iff.mp invalid ⟨floorLow, floorMark, markCeiling, ceilingHigh⟩
      · exact Int.not_lt.mpr within exceeds
    have body : rebuildAccountBody slot balance floor lowMark ceiling charged credited last s = _ :=
      (if_neg (not_free_of_damaged damaged)).trans ((if_neg (not_not_intro damaged)).trans (if_neg valid))
    dsimp only at body
    have pair : kept.1.pair slot = some p := rebuiltRefill_pair.trans held
    have written : (kept.1.setLife slot .frozen).setAccount slot record =
        (kept.1.setPair slot (some ⟨p.tag, .frozen⟩)).setAccount slot record := by
      rw [setLife_setAccount, pair]
      rfl
    rw [rebuiltKind_eq, mapTag_of_pair held, rebuilt_eq] at body
    have served := serve_answer (body := rebuildAccountBody slot balance floor lowMark ceiling charged credited last) hb body
    rw [← written]
    exact served
  · intro u slot kind
    refine ⟨rfl, fun r => ?_⟩
    intro p names fit
    exact ⟨rebuiltRefill_own, fun other => ⟨fun named fits => (rebuiltRefill_named other named).trans (if_pos fits),
      fun named unfit => (rebuiltRefill_named other named).trans (if_neg unfit),
      fun unnamed agrees => rebuiltRefill_unnamed other unnamed agrees⟩⟩
  · intro s tag slot c hb
    refine ⟨fun j p above held damaged lowest => ?_, fun none => serve_refused (body := nextDamagedBody slot) hb ?_⟩
    · have found := nextDamagedFrom_eq_some above ((AccountReads.mapState_of_pair held).trans damaged) lowest
      have body : nextDamagedBody slot s = ⟨s, .ok, [BitVec.ofNat 8 j.val] ++ leBytes 4 p.tag.toNat⟩ := by
        rw [nextDamagedBody, found, ← mapTag_of_pair held]
        rfl
      exact serve_answer (body := nextDamagedBody slot) hb body
    · rw [nextDamagedBody, nextDamagedFrom_eq_none none]

end Sys2Proof.Proofs.Integrity
end

section
/-! DISCARD ACCOUNT (R151, R152). -/

namespace Sys2Proof.Proofs.Integrity

open Sys2Proof.Machine Sys2Proof.Laws Sys2Proof.Proofs.Checks Sys2Proof.Proofs.NoticeService
open Sys2Proof.Proofs.AccountCommands Sys2Proof.Proofs.Invariants

variable {s t u : State} {slot i j : Slot}

/-! The specifications that name the discarded account (R152 step 3). -/

/-- The record of a consumer without its specification; REFILL_FAILED is raised unless the read found it damaged. -/
def stripped (t : State) (j : Slot) : State :=
  let u := (t.readRecord j).1
  let bare := { u.account j with refill := none }
  u.setAccount j (if u.mapState j = .damaged then bare
    else { bare with notice := { bare.notice with pending := bare.notice.pending ||| Cause.refillFailed } })

theorem damage_mapState_same (held : t.mapState j ≠ .free) : (t.damage j).mapState j = .damaged := by
  cases pair : t.pair j with
  | none => exact absurd (by rw [State.mapState, pair]) held
  | some p =>
    have now : (t.damage j).pair j = some { p with state := .damaged } := by
      rw [damage_pair, if_pos rfl, pair]
      rfl
    exact AccountReads.mapState_of_pair now

theorem damage_mapState_other {k : Slot} (other : j ≠ k) : (t.damage j).mapState k = t.mapState k := by
  rw [State.mapState, damage_pair, if_neg other]
  rfl

theorem damage_held {k : Slot} (held : t.mapState k ≠ .free) : (t.damage j).mapState k ≠ .free := by
  by_cases same : j = k
  · subst same
    exact not_free_of_damaged (damage_mapState_same held)
  · rwa [damage_mapState_other same]

theorem removeNaming_eq_stripped (held : t.mapState j ≠ .free) : t.removeNaming j = stripped t j := by
  unfold State.removeNaming stripped
  obtain free | damaged | sound | mismatched := lookup_cases t j
  · exact absurd free held
  · rw [readRecord_damaged damaged]
    exact congrArg (t.setAccount j) (if_pos damaged).symm
  · rw [readRecord_of_sound sound]
    dsimp only
    rw [if_neg sound.2.1, State.raiseAccount, State.modifyAccount, State.modifyAccount, setAccount_setAccount,
      setAccount_account_same]
    rfl
  · rw [readRecord_of_mismatched mismatched]
    exact congrArg ((t.damage j).setAccount j) (if_pos (damage_mapState_same held)).symm

theorem stripped_held {k : Slot} (held : t.mapState k ≠ .free) : (stripped t j).mapState k ≠ .free := by
  show (t.readRecord j).1.mapState k ≠ .free
  unfold State.readRecord
  split_ifs
  · exact held
  · exact held
  · exact held
  · exact damage_held held

/-- A removal leaves every slot held, so each consumer in turn is one whose record is read. -/
theorem foldl_removeNaming (consumers : List Slot) (held : ∀ j ∈ consumers, t.mapState j ≠ .free) :
    consumers.foldl State.removeNaming t = consumers.foldl stripped t := by
  induction consumers generalizing t with
  | nil => rfl
  | cons j rest ih =>
    rw [List.foldl_cons, List.foldl_cons, removeNaming_eq_stripped (held j List.mem_cons_self)]
    exact ih fun k member => stripped_held (held k (List.mem_cons_of_mem j member))

theorem consumersOf_held (member : j ∈ s.consumersOf slot) : s.mapState j ≠ .free := by
  have chosen := List.of_mem_filter member
  simp only [Bool.and_eq_true, decide_eq_true_eq] at chosen
  exact chosen.1.2

/-! Its own specification (R152 step 2). -/

theorem discardOwnRefill_none (absent : (u.account i).refill = none) : u.discardOwnRefill i = u := by
  unfold State.discardOwnRefill
  rw [absent]

section Own

variable {r : RefillSpec} (spec : (u.account i).refill = some r)
include spec

theorem discardOwnRefill_named (names : HoldsPool (u.setAccount i { u.account i with refill := none }) r.pool) :
    u.discardOwnRefill i = (u.setAccount i { u.account i with refill := none }).lowerDependents r.pool := by
  have read := readPool_named names
  unfold State.discardOwnRefill
  rw [spec]
  dsimp only [State.modifyAccount]
  rw [read]
  rfl

theorem discardOwnRefill_unnamed (unnamed : ¬HoldsPool (u.setAccount i { u.account i with refill := none }) r.pool)
    (agrees : ¬(u.setAccount i { u.account i with refill := none }).mismatched r.pool) :
    u.discardOwnRefill i = u.setAccount i { u.account i with refill := none } := by
  have read := readPool_unnamed unnamed agrees
  unfold State.discardOwnRefill
  rw [spec]
  dsimp only [State.modifyAccount]
  rw [read]
  rfl

end Own

theorem discardAccountBody_damaged (damaged : s.mapState slot = .damaged) :
    discardAccountBody slot s =
      let dropped := ((s.boundChannels slot).foldl State.discardChannel s).discardOwnRefill slot
      ⟨(((dropped.consumersOf slot).foldl stripped dropped).setPair slot none).setAccount slot .zero, .ok,
        [BitVec.ofNat 8 (s.boundChannels slot).length]
          ++ ((s.boundChannels slot).map fun d => discardNote d (s.channel d)).flatten
          ++ [BitVec.ofNat 8 (dropped.consumersOf slot).length]⟩ := by
  have body : discardAccountBody slot s = _ :=
    (if_neg (not_free_of_damaged damaged)).trans (if_neg (not_not_intro damaged))
  dsimp only at body
  rw [foldl_removeNaming _ fun j => consumersOf_held] at body
  exact body

/-- Settles O56: the body in its steps, with each removal from a consumer as the statement writes it. -/
theorem discardAccountCompletes : Obligations.DiscardAccountCompletes := by
  refine ⟨?_, fun u i => ⟨discardOwnRefill_none, fun r spec =>
    ⟨discardOwnRefill_named spec, discardOwnRefill_unnamed spec⟩⟩, ?_⟩
  · intro s tag slot c hb damaged bound noted unbound dropped consumers freed
    exact serve_answer (body := discardAccountBody slot) hb (discardAccountBody_damaged damaged)
  · intro s c tag last slot balance ceiling floor lowMark charged credited named hb
    rcases named with rfl | rfl
    · exact ⟨fun free => serve_refused (body := discardAccountBody slot) hb (if_pos free),
        fun held sound => serve_refused (body := discardAccountBody slot) hb ((if_neg held).trans (if_pos sound))⟩
    · have refused {st : Status}
          (h : rebuildAccountBody slot balance floor lowMark ceiling charged credited last s = refuse s st) :=
        serve_refused (body := rebuildAccountBody slot balance floor lowMark ceiling charged credited last) hb h
      exact ⟨fun free => refused (if_pos free), fun held sound => refused ((if_neg held).trans (if_pos sound))⟩

end Sys2Proof.Proofs.Integrity
end

section
/-! The rows of the supplies and the warm starts, ERASE TABLES and DEVICE STATUS (R155 to R159, R172). -/

namespace Sys2Proof.Proofs.Supplies

open Sys2Proof.Machine Sys2Proof.Laws Sys2Proof.Proofs.NoticeService Sys2Proof.Proofs.Invariants
open Sys2Proof.Proofs.Metering

variable {s : State}

/-! The loss of the supplies and the cold start (R156, R157). -/

theorem raise_zero (cause : BitVec 16) : NoticeRec.zero.raise cause = ⟨0, 0, 0, false, cause⟩ := by
  simp [NoticeRec.raise, NoticeRec.zero]

theorem interrupt_running {w : Sweep} (running : w.state = .running) :
    w.interrupt = { w with state := .idle, ending := .interrupted, stopOwed := true } := if_pos running

theorem interrupt_of_idle {w : Sweep} (idle : w.state = .idle) : w.interrupt = w := by
  refine if_neg ?_
  rw [idle]
  exact SweepState.noConfusion

theorem dropCommand_busy {p : PortState} {f : List Byte} (busy : p = .busy f) : p.dropCommand = .empty := by
  rw [busy]
  rfl

theorem dropCommand_idle {p : PortState} (idle : ∀ f, p ≠ .busy f) : p.dropCommand = p := by
  cases p with
  | busy f => exact absurd rfl (idle f)
  | empty | ready r => rfl

/-- Settles O57: RETAIN and the loss of VBK, then OFF, then the cold start by the level of RESET_N. -/
theorem supplyRowsComplete : Obligations.SupplyRowsComplete := by
  intro s
  refine ⟨fun vdd => ?_, fun present => ?_, fun off lost => ?_⟩
  · have powered := powered_iff.mpr vdd
    refine ⟨⟨_, next_congr (if_pos powered), fun d => ?_, interrupt_running, interrupt_of_idle, fun f => dropCommand_busy,
      dropCommand_idle, rfl⟩, next_congr (if_pos powered)⟩
    have hunting := mapChannels_channel s.interrupt (fun _ ch => { ch with receiver := .hunting }) d
    rw [interrupt_channel] at hunting
    exact hunting
  · exact ⟨_, next_congr (if_neg present), rfl, rfl, fun c => rfl, rfl, rfl, rfl, rfl⟩
  · have cold := coldTables_cold s
    have none (i : Slot) := And.intro (cold.account i) (cold.pair i)
    cases level : s.resetN with
    | true =>
      exact ⟨_, next_congr ((if_pos ⟨off, lost⟩).trans (if_pos level)), rfl, rfl, rfl, rfl, rfl, rfl, rfl, rfl, rfl, none, cold.tariff,
        cold.channel, cold.hold, rfl, rfl, rfl, rfl, raise_zero Cause.startDone, rfl, level⟩
    | false =>
      exact ⟨_, next_congr ((if_pos ⟨off, lost⟩).trans (if_neg (ne_true_of_eq_false level))), rfl, rfl, rfl, rfl, rfl, rfl, rfl, rfl, rfl,
        none, cold.tariff, cold.channel, cold.hold, rfl, rfl, rfl, rfl, rfl, rfl, level⟩

/-! The warm starts (R159). -/

theorem warmStart_eq (ch : Channel) :
    ch.warmStart = { ch with state := if ch.state = .live then .parked else ch.state, receiver := .hunting } := by
  unfold Channel.warmStart Channel.park
  split_ifs
  · rfl
  · rfl

theorem warmStart_channel_eq (s : State) (cause : StartCause) (d : Chan) :
    (s.warmStart cause).channel d =
      { s.channel d with
        state := if (s.channel d).state = .live then .parked else (s.channel d).state, receiver := .hunting } :=
  (warmStart_channel s cause d).trans (warmStart_eq _)

theorem interrupt_warmStart_channel (s : State) (cause : StartCause) (d : Chan) :
    (s.interrupt.warmStart cause).channel d =
      { (s.channel d).withdraw with
        state := if (s.channel d).withdraw.state = .live then .parked else (s.channel d).withdraw.state,
        receiver := .hunting } := by
  rw [warmStart_channel_eq, interrupt_channel]

theorem coldHeld_iff : s.coldHeld = true ↔ s.phase = .starting ∧ s.startCause = .cold := by
  simp [State.coldHeld]

/-- Settles O58: each occasion of a warm start, and the rise by whether a cold start is held. -/
theorem warmStartsComplete : Obligations.WarmStartsComplete := by
  intro s tag
  refine ⟨fun retain mark => ?_, fun vdd high => ?_, fun hb => ?_, fun warm => ?_, fun starting cold low => ?_⟩
  · exact ⟨_, next_congr (if_pos ⟨retain, mark⟩),
      ⟨rfl, rfl, rfl, rfl, rfl, rfl, rfl, rfl, warmStart_channel_eq s .supply, rfl, rfl, rfl, rfl, rfl, rfl, rfl, rfl, rfl, rfl⟩,
      rfl, rfl, rfl, rfl⟩
  · have powered : s.powered = true := powered_iff.mpr vdd
    exact ⟨_, next_congr ((if_pos high).trans (if_pos powered)),
      ⟨rfl, rfl, rfl, rfl, rfl, rfl, rfl, rfl, interrupt_warmStart_channel { s with resetN := false } .resetPin, rfl, rfl, rfl,
        rfl, rfl, rfl, rfl, rfl, rfl, rfl⟩, ⟨rfl, rfl, rfl⟩, rfl⟩
  · exact ⟨_, next_congr (serveWith_atBlock hb),
      ⟨rfl, rfl, rfl, rfl, rfl, rfl, rfl, rfl, interrupt_warmStart_channel s .restart, rfl, rfl, rfl, rfl, rfl, rfl, rfl, rfl,
        rfl, rfl⟩, ⟨rfl, rfl, rfl⟩, rfl⟩
  · exact next_congr (if_neg fun held => warm (coldHeld_iff.mp held.1))
  · exact next_congr (if_pos ⟨coldHeld_iff.mpr ⟨starting, cold⟩, low⟩)

/-! ERASE TABLES and DEVICE STATUS (R158, R172). -/

/-- A command that is served in STARTING too is carried out at its block in either phase. -/
theorem serveWith_served {frame : List Byte} {go : State → State} (powered : s.powered = true) (busy : s.port = .busy frame) :
    serveWith frame true go s = go s := by
  simp [serveWith, carryOut, powered, busy, PortState.frame?]

theorem phaseCode_of_powered (vdd : s.phase = .run ∨ s.phase = .starting) :
    s.phase.code = if s.phase = .run then 0x00 else 0x01 := by
  rcases vdd with run | starting
  · rw [run]
    rfl
  · rw [starting]
    rfl

/-- Settles O60: the tables as a cold start leaves them, and the bytes of the status. -/
theorem eraseTablesAndDeviceStatusComplete : Obligations.EraseTablesAndDeviceStatusComplete := by
  intro s tag
  refine ⟨fun hb => ?_, fun vdd busy => ?_⟩
  · have cold := coldTables_cold s
    exact ⟨_, serve_answer (body := eraseTablesBody) hb rfl, hb.1, rfl, rfl, rfl, rfl, rfl, rfl,
      fun i => ⟨cold.account i, cold.pair i⟩, cold.tariff, cold.channel, cold.hold, rfl, rfl, rfl, rfl, rfl, raise_zero Cause.startDone, rfl, rfl,
      rfl, rfl⟩
  · refine next_congr ((serveWith_served (powered_iff.mpr vdd) busy).trans ?_)
    rw [deviceStatusResult, phaseCode_of_powered vdd]
    rfl

end Sys2Proof.Proofs.Supplies
end

section
/-! The start check: the reading of the records and the completion in its stages (R102, R103, R160, R161). -/

namespace Sys2Proof.Proofs.StartCheck

open Sys2Proof.Machine Sys2Proof.Laws Sys2Proof.Proofs.Checks Sys2Proof.Proofs.Invariants Sys2Proof.Proofs.Metering

variable {s : State} {i : Slot} {c : Chan} {flow : Flow}

/-! A read of the check (R160). -/

theorem checkWalks_of (starting : s.phase = .starting) (warm : s.startCause ≠ .cold) (high : s.resetN = true) :
    s.checkWalks = true := checkWalks_iff.mpr ⟨⟨starting, warm⟩, high⟩

theorem startCheckRead_exec (walks : s.checkWalks = true) (position : s.checkPosition = i.val) :
    exec .startCheckRead s = .next { (s.readRecord i).1 with checkPosition := i.val + 1 } := by
  have below : s.checkPosition < 256 := position ▸ i.isLt
  have place : Fin.ofNat 256 s.checkPosition = i := Fin.ext ((Nat.mod_eq_of_lt below).trans position)
  have row : exec .startCheckRead s =
      .next { (s.readRecord (Fin.ofNat 256 s.checkPosition)).1 with checkPosition := s.checkPosition + 1 } :=
    next_congr (if_pos ⟨walks, below⟩)
  rwa [place, position] at row

theorem readRecord_fst (agrees : s.mapState i = .free ∨ s.mapState i = .damaged ∨ s.sound i) : (s.readRecord i).1 = s := by
  rcases agrees with free | damaged | sound
  · rw [readRecord_free free]
  · rw [readRecord_damaged damaged]
  · rw [readRecord_of_sound sound]

/-! The deferred quantities (R161 stage 1). -/

theorem completionCharge_skips
    (skips : (s.channel c).state = .unbound ∨ s.mapState (s.channel c).slot ≠ .opened ∨ (s.channel c).deferred flow = 0) :
    s.completionCharge flow c = s := by
  refine if_neg ?_
  rintro ⟨bound, opened, some'⟩
  rcases skips with unbound | other | zero
  · exact bound_iff.mp bound unbound
  · exact other opened
  · exact some' zero

section Charged

variable
  (charges : ¬((s.channel c).state = .unbound ∨ s.mapState (s.channel c).slot ≠ .opened ∨ (s.channel c).deferred flow = 0))
include charges

theorem opened_of_charges : s.mapState (s.channel c).slot = .opened := by
  by_contra other
  exact charges (.inr (.inl other))

theorem completionCharge_eq :
    s.completionCharge flow c =
      match s.readRecord (s.channel c).slot with
      | (s1, .sound _) => (s1.chargeDeferred c flow).1
      | (s1, .damaged) => s1
      | (s1, .free) => s1 := by
  have opened := opened_of_charges charges
  push Not at charges
  exact if_pos ⟨bound_iff.mpr charges.1, opened, charges.2.2⟩

theorem completionCharge_sound (intact : ¬(s.account (s.channel c).slot).syndrome ≠ 0) :
    s.completionCharge flow c = (s.chargeDeferred c flow).1 := by
  have opened := opened_of_charges charges
  have sound : s.sound (s.channel c).slot :=
    ⟨by simp [opened], by simp [opened], not_not.mp intact⟩
  rw [completionCharge_eq charges, readRecord_of_sound sound]

theorem completionCharge_broken (broken : (s.account (s.channel c).slot).syndrome ≠ 0) :
    s.completionCharge flow c = s.damage (s.channel c).slot := by
  have opened := opened_of_charges charges
  have mismatched : s.mismatched (s.channel c).slot := ⟨by simp [opened], by simp [opened], broken⟩
  rw [completionCharge_eq charges, readRecord_of_mismatched mismatched]

end Charged

/-! The redrive and the silence reload (R161 stages 2 to 4). -/

theorem completion_revived (opened : Prop) [Decidable opened] (ch : Channel) :
    (if ch.bound = true ∧ opened then { ch with state := .live } else ch).completion =
      if ch.state = .unbound then ch
      else
        let driven := (if opened then { ch with state := .live } else ch).evaluate
        let reloaded := { driven with silenceCounter := driven.silenceTimeout, silent := false }
        if driven.silent then reloaded.evaluate else reloaded := by
  by_cases unbound : ch.state = .unbound
  · have none : ¬ch.bound = true := fun bound => bound_iff.mp bound unbound
    rw [if_neg fun both => none both.1, if_pos unbound]
    exact if_neg none
  · have bound := bound_iff.mpr unbound
    have same : (if ch.bound = true ∧ opened then { ch with state := .live } else ch) =
        if opened then { ch with state := .live } else ch := if_congr (and_iff_right bound) rfl rfl
    have still : (if opened then { ch with state := .live } else ch).bound = true := by
      split_ifs
      · rfl
      · exact bound
    rw [same, if_neg unbound]
    exact if_pos still

/-! The causes (R161 stage 5). -/

/-- SUPPLY_RETURNED raised when it is owed. -/
def supplyCaused (u : State) : State :=
  if u.supplyNoticeOwed then { u.raiseFault Cause.supplyReturned with supplyNoticeOwed := false } else u

/-- SWEEP_STOPPED raised when it is owed. -/
def sweepCaused (u : State) : State :=
  if u.sweep.stopOwed then { u.raiseDevice Cause.sweepStopped with sweep := { u.sweep with stopOwed := false } } else u

theorem supplyCaused_eq (u : State) :
    supplyCaused u =
      { u with
        faults := if u.supplyNoticeOwed then { u.faults with pending := u.faults.pending ||| Cause.supplyReturned } else u.faults,
        supplyNoticeOwed := false } := by
  unfold supplyCaused
  by_cases owed : u.supplyNoticeOwed = true
  · rw [if_pos owed, if_pos owed]
    rfl
  · rw [if_neg owed, if_neg owed, ← Bool.eq_false_of_not_eq_true owed]

theorem sweepCaused_eq (u : State) :
    sweepCaused u =
      { u with
        device :=
          { u.device with pending := u.device.pending ||| (if u.sweep.stopOwed then Cause.sweepStopped else 0) },
        sweep := { u.sweep with stopOwed := false } } := by
  unfold sweepCaused
  by_cases owed : u.sweep.stopOwed = true
  · rw [if_pos owed, if_pos owed]
    rfl
  · have none : u.device.pending ||| 0 = u.device.pending := BitVec.or_zero
    rw [if_neg owed, if_neg owed, none, ← Bool.eq_false_of_not_eq_true owed]

/-- What the causes of stage 5 leave of a state. -/
def caused (u : State) : State :=
  { u with
    device :=
      { u.device with
        pending := u.device.pending ||| Cause.startDone ||| (if u.sweep.stopOwed then Cause.sweepStopped else 0) },
    faults := if u.supplyNoticeOwed then { u.faults with pending := u.faults.pending ||| Cause.supplyReturned } else u.faults,
    supplyNoticeOwed := false, sweep := { u.sweep with stopOwed := false } }

theorem completionCauses_eq_caused (u : State) : u.completionCauses = caused u := by
  have causes : u.completionCauses = sweepCaused (supplyCaused (u.raiseDevice Cause.startDone)) := rfl
  rw [causes, supplyCaused_eq, sweepCaused_eq]
  rfl

/-! The completion. -/

theorem mem_dueHandles {g : Handle} : g ∈ s.dueHandles ↔
    (s.hold g.idx).held = true ∧ (s.hold g.idx).expiryDue = true ∧ (s.hold g.idx).generation = g.gen := by
  simp only [State.dueHandles, List.mem_map, List.mem_filter, Bool.and_eq_true, Time.handleOf_eq_iff]
  constructor
  · rintro ⟨h, ⟨-, held, due⟩, rfl, gen⟩
    exact ⟨held, due, gen⟩
  · rintro ⟨held, due, gen⟩
    exact ⟨g.idx, ⟨List.mem_finRange _, held, due⟩, rfl, gen⟩

/-- The channels after stages 2 to 4. -/
def redriven (u : State) : State := u.completionStates.mapChannels fun _ ch => ch.completion

theorem completion_eq (s : State) :
    s.completion = (caused (redriven (allChannels.foldl State.completionChannel s))).completionRun :=
  congrArg State.completionRun (completionCauses_eq_caused _)

theorem redriven_channel (u : State) (d : Chan) :
    (redriven u).channel d =
      let ch := u.channel d
      if ch.state = .unbound then ch
      else
        let driven := (if u.mapState ch.slot = .opened then { ch with state := .live } else ch).evaluate
        let reloaded := { driven with silenceCounter := driven.silenceTimeout, silent := false }
        if driven.silent then reloaded.evaluate else reloaded := by
  have states : u.completionStates.channel d = _ := mapChannels_channel u _ d
  have driven : (redriven u).channel d = (u.completionStates.channel d).completion := mapChannels_channel _ _ d
  rw [driven, states]
  exact completion_revived _ _

/-- Settles O59: the check's read, the completion by its stages, and one deferred quantity by what its account's read finds. -/
theorem startCheckRowsComplete : Obligations.StartCheckRowsComplete := by
  refine ⟨fun s starting warm high => ⟨fun i position => ⟨fun agrees => ?_, fun mismatched => ?_⟩, fun full => ?_⟩, ?_⟩
  · rw [startCheckRead_exec (checkWalks_of starting warm high) position, readRecord_fst agrees]
  · rw [startCheckRead_exec (checkWalks_of starting warm high) position, readRecord_of_mismatched mismatched]
  · have walks := checkWalks_of starting warm high
    have outside : SameOutside s (allChannels.foldl State.completionChannel s) :=
      (foldl_quiet completionChannel_quiet allChannels s).outside
    refine ⟨_, next_congr ((if_pos ⟨walks, full.ge⟩).trans (completion_eq s)), ?_⟩
    intro charged
    have same : allChannels.foldl State.completionChannel s = charged := rfl
    rw [same] at outside ⊢
    clear_value charged
    have device : (caused (redriven charged)).completionRun.device.pending =
        charged.device.pending ||| Cause.startDone ||| (if charged.sweep.stopOwed then Cause.sweepStopped else 0) := rfl
    have sweep : (caused (redriven charged)).completionRun.sweep = { charged.sweep with stopOwed := false } := rfl
    rw [device, sweep, outside.device, outside.sweep]
    refine ⟨redriven_channel charged, rfl, rfl, rfl, rfl, rfl, rfl, rfl, rfl, rfl, rfl, ?_, outside.port, outside.replay,
      outside.stack, outside.globalEnable, outside.startCause⟩
    exact ⟨charged.dueHandles, congrArg (· ++ charged.dueHandles) outside.expiryRequests, fun g => mem_dueHandles⟩
  · intro s d ch skips broken
    exact ⟨rfl, completionCharge_skips (flow := .imp), completionCharge_sound (flow := .imp),
      completionCharge_broken (flow := .imp), completionCharge_skips (flow := .exp), completionCharge_sound (flow := .exp),
      completionCharge_broken (flow := .exp), damage_deferred s ch.slot d .imp, damage_deferred s ch.slot d .exp⟩

end Sys2Proof.Proofs.StartCheck
end
